-- ==== Sys2Proof/Word.lean ====
section
/-! DEFINITION. The two word sizes of the machine (00_scope.md R5): a byte is 8 bits, a word is 16 bits. -/
namespace Sys2Proof

/-- A byte, 8 bits (R5). -/
abbrev Byte := BitVec 8

/-- A word, 16 bits: the width of a register pair and of an address (R4, R5). -/
abbrev Word := BitVec 16

end Sys2Proof
end

