-- ==== Sys2Proof/Machine/Bits.lean ====
section
/-! DEFINITION. Bit-field, byte-order and sign-extension helpers (00_scope.md R5, 20_memory.md R72). -/
namespace Sys2Proof.Machine

/-- `w[7:0]` (R5). -/
def lowByte (w : Word) : Byte := w.setWidth 8

/-- `w[15:8]` (R5). -/
def highByte (w : Word) : Byte := (w >>> 8).setWidth 8

/-- The word whose high byte is `hi` and low byte `lo`: `(hi << 8) | lo` (R5, R72). -/
def joinBytes (lo hi : Byte) : Word := hi ++ lo

/-- `sext_16(v)`: two's-complement sign extension of a byte (R5, R119). -/
def sext16 (v : Byte) : Word := v.signExtend 16

/-- Bit `i` of a byte (R5). -/
def bitAt (v : Byte) (i : Nat) : Bool := v.getLsbD i

/-- A byte whose only set bit is bit `i`: `1 << i` (R254, R255, R318). -/
def oneBit (i : Nat) : Byte := 1#8 <<< i

/-- A bit as a byte, 0 or 1 (R5: "Booleans and single bits are interchangeable"). -/
def bitByte (b : Bool) : Byte := if b then 1#8 else 0#8

end Sys2Proof.Machine
end

