-- ==== Sys2Proof/Syntax.lean ====
section
/-! DEFINITION. The instructions: one constructor per row of spec/opcode_table.json (the eleven `ILLEGAL` rows, which share a
mnemonic, are one constructor that carries the removed byte), and the operand enumerations of 30_encoding.md R113 to R116. -/
namespace Sys2Proof

/-- The seven byte registers an operand field can name (30_encoding.md R113; `F` cannot be named). -/
inductive Reg8 where
  | b | c | d | e | h | l | a
  deriving DecidableEq, Repr

/-- `r8[i]`: a byte register, or the memory byte at the address in `HL` (R113). -/
inductive Operand8 where
  | reg (r : Reg8)
  | hlInd
  deriving DecidableEq, Repr

/-- `r16[p]`: the pairs of the load and arithmetic forms (R114). -/
inductive Reg16 where
  | bc | de | hl | sp
  deriving DecidableEq, Repr

/-- `r16stk[p]`: the pairs of `PUSH` and `POP` (R114). -/
inductive Stk16 where
  | bc | de | hl | af
  deriving DecidableEq, Repr

/-- `cc[i]`: the four conditions (R115). -/
inductive Cond where
  | nz | z | nc | c
  deriving DecidableEq, Repr

/-- `alu[y]`: the eight accumulator operations (R116). -/
inductive AluOp where
  | add | adc | sub | sbc | and | xor | or | cp
  deriving DecidableEq, Repr

/-- `rot[y]`: the eight rotates and shifts of the extended table (R116). -/
inductive RotOp where
  | rlc | rrc | rl | rr | sla | sra | swap | srl
  deriving DecidableEq, Repr

/-- An instruction. The constructors that carry an immediate stand first. Each constructor's comment gives its row's mnemonic, its opcode byte (extended entries: after 0xCB) and the
rule of its meaning. -/
inductive Instr where
  -- 8-bit loads (40_load8.md), with an immediate
  /-- `LD B,n` 06, R141 -/
  | ldBN (n : Byte)
  /-- `LD C,n` 0E, R141 -/
  | ldCN (n : Byte)
  /-- `LD D,n` 16, R141 -/
  | ldDN (n : Byte)
  /-- `LD E,n` 1E, R141 -/
  | ldEN (n : Byte)
  /-- `LD H,n` 26, R141 -/
  | ldHN (n : Byte)
  /-- `LD L,n` 2E, R141 -/
  | ldLN (n : Byte)
  /-- `LD (HL),n` 36, R144 -/
  | ldIndHlN (n : Byte)
  /-- `LD A,n` 3E, R141 -/
  | ldAN (n : Byte)
  /-- `LDH (n),A` E0, R152 -/
  | ldhIndNA (n : Byte)
  /-- `LD (nn),A` EA, R150 -/
  | ldIndNnA (nn : Word)
  /-- `LDH A,(n)` F0, R151 -/
  | ldhAIndN (n : Byte)
  /-- `LD A,(nn)` FA, R149 -/
  | ldAIndNn (nn : Word)
  -- 16-bit loads and stack (41_load16.md), with an immediate
  /-- `LD BC,nn` 01, R171 -/
  | ldBcNn (nn : Word)
  /-- `LD (nn),SP` 08, R172 -/
  | ldIndNnSp (nn : Word)
  /-- `LD DE,nn` 11, R171 -/
  | ldDeNn (nn : Word)
  /-- `LD HL,nn` 21, R171 -/
  | ldHlNn (nn : Word)
  /-- `LD SP,nn` 31, R171 -/
  | ldSpNn (nn : Word)
  /-- `LD HL,SP+n` F8, R174 -/
  | ldHlSpN (n : Byte)
  -- 8-bit arithmetic and logic (42_alu8.md), with an immediate
  /-- `ADD A,n` C6, R193 -/
  | addAN (n : Byte)
  /-- `ADC A,n` CE, R194 -/
  | adcAN (n : Byte)
  /-- `SUB A,n` D6, R195 -/
  | subAN (n : Byte)
  /-- `SBC A,n` DE, R196 -/
  | sbcAN (n : Byte)
  /-- `AND A,n` E6, R197 -/
  | andAN (n : Byte)
  /-- `XOR A,n` EE, R198 -/
  | xorAN (n : Byte)
  /-- `OR A,n` F6, R199 -/
  | orAN (n : Byte)
  /-- `CP A,n` FE, R200 -/
  | cpAN (n : Byte)
  -- 16-bit arithmetic (43_alu16.md), with an immediate
  /-- `ADD SP,n` E8, R233 -/
  | addSpN (n : Byte)
  -- Control transfer (45_control.md), with an immediate
  /-- `JR n` 18, R274 -/
  | jrN (n : Byte)
  /-- `JR NZ,n` 20, R275 -/
  | jrNzN (n : Byte)
  /-- `JR Z,n` 28, R275 -/
  | jrZN (n : Byte)
  /-- `JR NC,n` 30, R275 -/
  | jrNcN (n : Byte)
  /-- `JR C,n` 38, R275 -/
  | jrCN (n : Byte)
  /-- `JP NZ,nn` C2, R272 -/
  | jpNzNn (nn : Word)
  /-- `JP nn` C3, R271 -/
  | jpNn (nn : Word)
  /-- `CALL NZ,nn` C4, R277 -/
  | callNzNn (nn : Word)
  /-- `JP Z,nn` CA, R272 -/
  | jpZNn (nn : Word)
  /-- `CALL Z,nn` CC, R277 -/
  | callZNn (nn : Word)
  /-- `CALL nn` CD, R276 -/
  | callNn (nn : Word)
  /-- `JP NC,nn` D2, R272 -/
  | jpNcNn (nn : Word)
  /-- `CALL NC,nn` D4, R277 -/
  | callNcNn (nn : Word)
  /-- `JP C,nn` DA, R272 -/
  | jpCNn (nn : Word)
  /-- `CALL C,nn` DC, R277 -/
  | callCNn (nn : Word)
  -- System and miscellaneous (46_misc.md), with an immediate
  /-- `STOP` 10, R292 -/
  | stop (n : Byte)
  /-- `PREFIX CB` CB, R295 -/
  | prefixCb (xop : Byte)
  /-- `ILLEGAL` one of the eleven removed bytes, R296 -/
  | illegal (opcode : Byte)
  -- 8-bit loads (40_load8.md), no immediate
  /-- `LD (BC),A` 02, R147 -/
  | ldIndBcA
  /-- `LD A,(BC)` 0A, R145 -/
  | ldAIndBc
  /-- `LD (DE),A` 12, R148 -/
  | ldIndDeA
  /-- `LD A,(DE)` 1A, R146 -/
  | ldAIndDe
  /-- `LD (HL+),A` 22, R155 -/
  | ldIndHlIncA
  /-- `LD A,(HL+)` 2A, R156 -/
  | ldAIndHlInc
  /-- `LD (HL-),A` 32, R157 -/
  | ldIndHlDecA
  /-- `LD A,(HL-)` 3A, R158 -/
  | ldAIndHlDec
  /-- `LD B,B` 40, R140 -/
  | ldBB
  /-- `LD B,C` 41, R140 -/
  | ldBC
  /-- `LD B,D` 42, R140 -/
  | ldBD
  /-- `LD B,E` 43, R140 -/
  | ldBE
  /-- `LD B,H` 44, R140 -/
  | ldBH
  /-- `LD B,L` 45, R140 -/
  | ldBL
  /-- `LD B,(HL)` 46, R142 -/
  | ldBIndHl
  /-- `LD B,A` 47, R140 -/
  | ldBA
  /-- `LD C,B` 48, R140 -/
  | ldCB
  /-- `LD C,C` 49, R140 -/
  | ldCC
  /-- `LD C,D` 4A, R140 -/
  | ldCD
  /-- `LD C,E` 4B, R140 -/
  | ldCE
  /-- `LD C,H` 4C, R140 -/
  | ldCH
  /-- `LD C,L` 4D, R140 -/
  | ldCL
  /-- `LD C,(HL)` 4E, R142 -/
  | ldCIndHl
  /-- `LD C,A` 4F, R140 -/
  | ldCA
  /-- `LD D,B` 50, R140 -/
  | ldDB
  /-- `LD D,C` 51, R140 -/
  | ldDC
  /-- `LD D,D` 52, R140 -/
  | ldDD
  /-- `LD D,E` 53, R140 -/
  | ldDE
  /-- `LD D,H` 54, R140 -/
  | ldDH
  /-- `LD D,L` 55, R140 -/
  | ldDL
  /-- `LD D,(HL)` 56, R142 -/
  | ldDIndHl
  /-- `LD D,A` 57, R140 -/
  | ldDA
  /-- `LD E,B` 58, R140 -/
  | ldEB
  /-- `LD E,C` 59, R140 -/
  | ldEC
  /-- `LD E,D` 5A, R140 -/
  | ldED
  /-- `LD E,E` 5B, R140 -/
  | ldEE
  /-- `LD E,H` 5C, R140 -/
  | ldEH
  /-- `LD E,L` 5D, R140 -/
  | ldEL
  /-- `LD E,(HL)` 5E, R142 -/
  | ldEIndHl
  /-- `LD E,A` 5F, R140 -/
  | ldEA
  /-- `LD H,B` 60, R140 -/
  | ldHB
  /-- `LD H,C` 61, R140 -/
  | ldHC
  /-- `LD H,D` 62, R140 -/
  | ldHD
  /-- `LD H,E` 63, R140 -/
  | ldHE
  /-- `LD H,H` 64, R140 -/
  | ldHH
  /-- `LD H,L` 65, R140 -/
  | ldHL
  /-- `LD H,(HL)` 66, R142 -/
  | ldHIndHl
  /-- `LD H,A` 67, R140 -/
  | ldHA
  /-- `LD L,B` 68, R140 -/
  | ldLB
  /-- `LD L,C` 69, R140 -/
  | ldLC
  /-- `LD L,D` 6A, R140 -/
  | ldLD
  /-- `LD L,E` 6B, R140 -/
  | ldLE
  /-- `LD L,H` 6C, R140 -/
  | ldLH
  /-- `LD L,L` 6D, R140 -/
  | ldLL
  /-- `LD L,(HL)` 6E, R142 -/
  | ldLIndHl
  /-- `LD L,A` 6F, R140 -/
  | ldLA
  /-- `LD (HL),B` 70, R143 -/
  | ldIndHlB
  /-- `LD (HL),C` 71, R143 -/
  | ldIndHlC
  /-- `LD (HL),D` 72, R143 -/
  | ldIndHlD
  /-- `LD (HL),E` 73, R143 -/
  | ldIndHlE
  /-- `LD (HL),H` 74, R143 -/
  | ldIndHlH
  /-- `LD (HL),L` 75, R143 -/
  | ldIndHlL
  /-- `LD (HL),A` 77, R143 -/
  | ldIndHlA
  /-- `LD A,B` 78, R140 -/
  | ldAB
  /-- `LD A,C` 79, R140 -/
  | ldAC
  /-- `LD A,D` 7A, R140 -/
  | ldAD
  /-- `LD A,E` 7B, R140 -/
  | ldAE
  /-- `LD A,H` 7C, R140 -/
  | ldAH
  /-- `LD A,L` 7D, R140 -/
  | ldAL
  /-- `LD A,(HL)` 7E, R142 -/
  | ldAIndHl
  /-- `LD A,A` 7F, R140 -/
  | ldAA
  /-- `LD (C),A` E2, R154 -/
  | ldIndCA
  /-- `LD A,(C)` F2, R153 -/
  | ldAIndC
  -- 16-bit loads and stack (41_load16.md), no immediate
  /-- `POP BC` C1, R176 -/
  | popBc
  /-- `PUSH BC` C5, R175 -/
  | pushBc
  /-- `POP DE` D1, R176 -/
  | popDe
  /-- `PUSH DE` D5, R175 -/
  | pushDe
  /-- `POP HL` E1, R176 -/
  | popHl
  /-- `PUSH HL` E5, R175 -/
  | pushHl
  /-- `POP AF` F1, R176 -/
  | popAf
  /-- `PUSH AF` F5, R175 -/
  | pushAf
  /-- `LD SP,HL` F9, R173 -/
  | ldSpHl
  -- 8-bit arithmetic and logic (42_alu8.md), no immediate
  /-- `INC B` 04, R201 -/
  | incB
  /-- `DEC B` 05, R203 -/
  | decB
  /-- `INC C` 0C, R201 -/
  | incC
  /-- `DEC C` 0D, R203 -/
  | decC
  /-- `INC D` 14, R201 -/
  | incD
  /-- `DEC D` 15, R203 -/
  | decD
  /-- `INC E` 1C, R201 -/
  | incE
  /-- `DEC E` 1D, R203 -/
  | decE
  /-- `INC H` 24, R201 -/
  | incH
  /-- `DEC H` 25, R203 -/
  | decH
  /-- `DAA` 27, R205 -/
  | daa
  /-- `INC L` 2C, R201 -/
  | incL
  /-- `DEC L` 2D, R203 -/
  | decL
  /-- `CPL` 2F, R206 -/
  | cpl
  /-- `INC (HL)` 34, R202 -/
  | incIndHl
  /-- `DEC (HL)` 35, R204 -/
  | decIndHl
  /-- `SCF` 37, R207 -/
  | scf
  /-- `INC A` 3C, R201 -/
  | incA
  /-- `DEC A` 3D, R203 -/
  | decA
  /-- `CCF` 3F, R208 -/
  | ccf
  /-- `ADD A,B` 80, R193 -/
  | addAB
  /-- `ADD A,C` 81, R193 -/
  | addAC
  /-- `ADD A,D` 82, R193 -/
  | addAD
  /-- `ADD A,E` 83, R193 -/
  | addAE
  /-- `ADD A,H` 84, R193 -/
  | addAH
  /-- `ADD A,L` 85, R193 -/
  | addAL
  /-- `ADD A,(HL)` 86, R193 -/
  | addAIndHl
  /-- `ADD A,A` 87, R193 -/
  | addAA
  /-- `ADC A,B` 88, R194 -/
  | adcAB
  /-- `ADC A,C` 89, R194 -/
  | adcAC
  /-- `ADC A,D` 8A, R194 -/
  | adcAD
  /-- `ADC A,E` 8B, R194 -/
  | adcAE
  /-- `ADC A,H` 8C, R194 -/
  | adcAH
  /-- `ADC A,L` 8D, R194 -/
  | adcAL
  /-- `ADC A,(HL)` 8E, R194 -/
  | adcAIndHl
  /-- `ADC A,A` 8F, R194 -/
  | adcAA
  /-- `SUB A,B` 90, R195 -/
  | subAB
  /-- `SUB A,C` 91, R195 -/
  | subAC
  /-- `SUB A,D` 92, R195 -/
  | subAD
  /-- `SUB A,E` 93, R195 -/
  | subAE
  /-- `SUB A,H` 94, R195 -/
  | subAH
  /-- `SUB A,L` 95, R195 -/
  | subAL
  /-- `SUB A,(HL)` 96, R195 -/
  | subAIndHl
  /-- `SUB A,A` 97, R195 -/
  | subAA
  /-- `SBC A,B` 98, R196 -/
  | sbcAB
  /-- `SBC A,C` 99, R196 -/
  | sbcAC
  /-- `SBC A,D` 9A, R196 -/
  | sbcAD
  /-- `SBC A,E` 9B, R196 -/
  | sbcAE
  /-- `SBC A,H` 9C, R196 -/
  | sbcAH
  /-- `SBC A,L` 9D, R196 -/
  | sbcAL
  /-- `SBC A,(HL)` 9E, R196 -/
  | sbcAIndHl
  /-- `SBC A,A` 9F, R196 -/
  | sbcAA
  /-- `AND A,B` A0, R197 -/
  | andAB
  /-- `AND A,C` A1, R197 -/
  | andAC
  /-- `AND A,D` A2, R197 -/
  | andAD
  /-- `AND A,E` A3, R197 -/
  | andAE
  /-- `AND A,H` A4, R197 -/
  | andAH
  /-- `AND A,L` A5, R197 -/
  | andAL
  /-- `AND A,(HL)` A6, R197 -/
  | andAIndHl
  /-- `AND A,A` A7, R197 -/
  | andAA
  /-- `XOR A,B` A8, R198 -/
  | xorAB
  /-- `XOR A,C` A9, R198 -/
  | xorAC
  /-- `XOR A,D` AA, R198 -/
  | xorAD
  /-- `XOR A,E` AB, R198 -/
  | xorAE
  /-- `XOR A,H` AC, R198 -/
  | xorAH
  /-- `XOR A,L` AD, R198 -/
  | xorAL
  /-- `XOR A,(HL)` AE, R198 -/
  | xorAIndHl
  /-- `XOR A,A` AF, R198 -/
  | xorAA
  /-- `OR A,B` B0, R199 -/
  | orAB
  /-- `OR A,C` B1, R199 -/
  | orAC
  /-- `OR A,D` B2, R199 -/
  | orAD
  /-- `OR A,E` B3, R199 -/
  | orAE
  /-- `OR A,H` B4, R199 -/
  | orAH
  /-- `OR A,L` B5, R199 -/
  | orAL
  /-- `OR A,(HL)` B6, R199 -/
  | orAIndHl
  /-- `OR A,A` B7, R199 -/
  | orAA
  /-- `CP A,B` B8, R200 -/
  | cpAB
  /-- `CP A,C` B9, R200 -/
  | cpAC
  /-- `CP A,D` BA, R200 -/
  | cpAD
  /-- `CP A,E` BB, R200 -/
  | cpAE
  /-- `CP A,H` BC, R200 -/
  | cpAH
  /-- `CP A,L` BD, R200 -/
  | cpAL
  /-- `CP A,(HL)` BE, R200 -/
  | cpAIndHl
  /-- `CP A,A` BF, R200 -/
  | cpAA
  -- 16-bit arithmetic (43_alu16.md), no immediate
  /-- `INC BC` 03, R231 -/
  | incBc
  /-- `ADD HL,BC` 09, R230 -/
  | addHlBc
  /-- `DEC BC` 0B, R232 -/
  | decBc
  /-- `INC DE` 13, R231 -/
  | incDe
  /-- `ADD HL,DE` 19, R230 -/
  | addHlDe
  /-- `DEC DE` 1B, R232 -/
  | decDe
  /-- `INC HL` 23, R231 -/
  | incHl
  /-- `ADD HL,HL` 29, R230 -/
  | addHlHl
  /-- `DEC HL` 2B, R232 -/
  | decHl
  /-- `INC SP` 33, R231 -/
  | incSp
  /-- `ADD HL,SP` 39, R230 -/
  | addHlSp
  /-- `DEC SP` 3B, R232 -/
  | decSp
  -- Rotates, shifts, swap, bit operations (44_rotate_shift_bit.md), no immediate
  /-- `RLCA` 07, R241 -/
  | rlca
  /-- `RRCA` 0F, R242 -/
  | rrca
  /-- `RLA` 17, R243 -/
  | rla
  /-- `RRA` 1F, R244 -/
  | rra
  /-- `RLC B` CB 00, R245 -/
  | rlcB
  /-- `RLC C` CB 01, R245 -/
  | rlcC
  /-- `RLC D` CB 02, R245 -/
  | rlcD
  /-- `RLC E` CB 03, R245 -/
  | rlcE
  /-- `RLC H` CB 04, R245 -/
  | rlcH
  /-- `RLC L` CB 05, R245 -/
  | rlcL
  /-- `RLC (HL)` CB 06, R245 -/
  | rlcIndHl
  /-- `RLC A` CB 07, R245 -/
  | rlcA
  /-- `RRC B` CB 08, R246 -/
  | rrcB
  /-- `RRC C` CB 09, R246 -/
  | rrcC
  /-- `RRC D` CB 0A, R246 -/
  | rrcD
  /-- `RRC E` CB 0B, R246 -/
  | rrcE
  /-- `RRC H` CB 0C, R246 -/
  | rrcH
  /-- `RRC L` CB 0D, R246 -/
  | rrcL
  /-- `RRC (HL)` CB 0E, R246 -/
  | rrcIndHl
  /-- `RRC A` CB 0F, R246 -/
  | rrcA
  /-- `RL B` CB 10, R247 -/
  | rlB
  /-- `RL C` CB 11, R247 -/
  | rlC
  /-- `RL D` CB 12, R247 -/
  | rlD
  /-- `RL E` CB 13, R247 -/
  | rlE
  /-- `RL H` CB 14, R247 -/
  | rlH
  /-- `RL L` CB 15, R247 -/
  | rlL
  /-- `RL (HL)` CB 16, R247 -/
  | rlIndHl
  /-- `RL A` CB 17, R247 -/
  | rlA
  /-- `RR B` CB 18, R248 -/
  | rrB
  /-- `RR C` CB 19, R248 -/
  | rrC
  /-- `RR D` CB 1A, R248 -/
  | rrD
  /-- `RR E` CB 1B, R248 -/
  | rrE
  /-- `RR H` CB 1C, R248 -/
  | rrH
  /-- `RR L` CB 1D, R248 -/
  | rrL
  /-- `RR (HL)` CB 1E, R248 -/
  | rrIndHl
  /-- `RR A` CB 1F, R248 -/
  | rrA
  /-- `SLA B` CB 20, R249 -/
  | slaB
  /-- `SLA C` CB 21, R249 -/
  | slaC
  /-- `SLA D` CB 22, R249 -/
  | slaD
  /-- `SLA E` CB 23, R249 -/
  | slaE
  /-- `SLA H` CB 24, R249 -/
  | slaH
  /-- `SLA L` CB 25, R249 -/
  | slaL
  /-- `SLA (HL)` CB 26, R249 -/
  | slaIndHl
  /-- `SLA A` CB 27, R249 -/
  | slaA
  /-- `SRA B` CB 28, R250 -/
  | sraB
  /-- `SRA C` CB 29, R250 -/
  | sraC
  /-- `SRA D` CB 2A, R250 -/
  | sraD
  /-- `SRA E` CB 2B, R250 -/
  | sraE
  /-- `SRA H` CB 2C, R250 -/
  | sraH
  /-- `SRA L` CB 2D, R250 -/
  | sraL
  /-- `SRA (HL)` CB 2E, R250 -/
  | sraIndHl
  /-- `SRA A` CB 2F, R250 -/
  | sraA
  /-- `SWAP B` CB 30, R251 -/
  | swapB
  /-- `SWAP C` CB 31, R251 -/
  | swapC
  /-- `SWAP D` CB 32, R251 -/
  | swapD
  /-- `SWAP E` CB 33, R251 -/
  | swapE
  /-- `SWAP H` CB 34, R251 -/
  | swapH
  /-- `SWAP L` CB 35, R251 -/
  | swapL
  /-- `SWAP (HL)` CB 36, R251 -/
  | swapIndHl
  /-- `SWAP A` CB 37, R251 -/
  | swapA
  /-- `SRL B` CB 38, R252 -/
  | srlB
  /-- `SRL C` CB 39, R252 -/
  | srlC
  /-- `SRL D` CB 3A, R252 -/
  | srlD
  /-- `SRL E` CB 3B, R252 -/
  | srlE
  /-- `SRL H` CB 3C, R252 -/
  | srlH
  /-- `SRL L` CB 3D, R252 -/
  | srlL
  /-- `SRL (HL)` CB 3E, R252 -/
  | srlIndHl
  /-- `SRL A` CB 3F, R252 -/
  | srlA
  /-- `BIT 0,B` CB 40, R253 -/
  | bit0B
  /-- `BIT 0,C` CB 41, R253 -/
  | bit0C
  /-- `BIT 0,D` CB 42, R253 -/
  | bit0D
  /-- `BIT 0,E` CB 43, R253 -/
  | bit0E
  /-- `BIT 0,H` CB 44, R253 -/
  | bit0H
  /-- `BIT 0,L` CB 45, R253 -/
  | bit0L
  /-- `BIT 0,(HL)` CB 46, R253 -/
  | bit0IndHl
  /-- `BIT 0,A` CB 47, R253 -/
  | bit0A
  /-- `BIT 1,B` CB 48, R253 -/
  | bit1B
  /-- `BIT 1,C` CB 49, R253 -/
  | bit1C
  /-- `BIT 1,D` CB 4A, R253 -/
  | bit1D
  /-- `BIT 1,E` CB 4B, R253 -/
  | bit1E
  /-- `BIT 1,H` CB 4C, R253 -/
  | bit1H
  /-- `BIT 1,L` CB 4D, R253 -/
  | bit1L
  /-- `BIT 1,(HL)` CB 4E, R253 -/
  | bit1IndHl
  /-- `BIT 1,A` CB 4F, R253 -/
  | bit1A
  /-- `BIT 2,B` CB 50, R253 -/
  | bit2B
  /-- `BIT 2,C` CB 51, R253 -/
  | bit2C
  /-- `BIT 2,D` CB 52, R253 -/
  | bit2D
  /-- `BIT 2,E` CB 53, R253 -/
  | bit2E
  /-- `BIT 2,H` CB 54, R253 -/
  | bit2H
  /-- `BIT 2,L` CB 55, R253 -/
  | bit2L
  /-- `BIT 2,(HL)` CB 56, R253 -/
  | bit2IndHl
  /-- `BIT 2,A` CB 57, R253 -/
  | bit2A
  /-- `BIT 3,B` CB 58, R253 -/
  | bit3B
  /-- `BIT 3,C` CB 59, R253 -/
  | bit3C
  /-- `BIT 3,D` CB 5A, R253 -/
  | bit3D
  /-- `BIT 3,E` CB 5B, R253 -/
  | bit3E
  /-- `BIT 3,H` CB 5C, R253 -/
  | bit3H
  /-- `BIT 3,L` CB 5D, R253 -/
  | bit3L
  /-- `BIT 3,(HL)` CB 5E, R253 -/
  | bit3IndHl
  /-- `BIT 3,A` CB 5F, R253 -/
  | bit3A
  /-- `BIT 4,B` CB 60, R253 -/
  | bit4B
  /-- `BIT 4,C` CB 61, R253 -/
  | bit4C
  /-- `BIT 4,D` CB 62, R253 -/
  | bit4D
  /-- `BIT 4,E` CB 63, R253 -/
  | bit4E
  /-- `BIT 4,H` CB 64, R253 -/
  | bit4H
  /-- `BIT 4,L` CB 65, R253 -/
  | bit4L
  /-- `BIT 4,(HL)` CB 66, R253 -/
  | bit4IndHl
  /-- `BIT 4,A` CB 67, R253 -/
  | bit4A
  /-- `BIT 5,B` CB 68, R253 -/
  | bit5B
  /-- `BIT 5,C` CB 69, R253 -/
  | bit5C
  /-- `BIT 5,D` CB 6A, R253 -/
  | bit5D
  /-- `BIT 5,E` CB 6B, R253 -/
  | bit5E
  /-- `BIT 5,H` CB 6C, R253 -/
  | bit5H
  /-- `BIT 5,L` CB 6D, R253 -/
  | bit5L
  /-- `BIT 5,(HL)` CB 6E, R253 -/
  | bit5IndHl
  /-- `BIT 5,A` CB 6F, R253 -/
  | bit5A
  /-- `BIT 6,B` CB 70, R253 -/
  | bit6B
  /-- `BIT 6,C` CB 71, R253 -/
  | bit6C
  /-- `BIT 6,D` CB 72, R253 -/
  | bit6D
  /-- `BIT 6,E` CB 73, R253 -/
  | bit6E
  /-- `BIT 6,H` CB 74, R253 -/
  | bit6H
  /-- `BIT 6,L` CB 75, R253 -/
  | bit6L
  /-- `BIT 6,(HL)` CB 76, R253 -/
  | bit6IndHl
  /-- `BIT 6,A` CB 77, R253 -/
  | bit6A
  /-- `BIT 7,B` CB 78, R253 -/
  | bit7B
  /-- `BIT 7,C` CB 79, R253 -/
  | bit7C
  /-- `BIT 7,D` CB 7A, R253 -/
  | bit7D
  /-- `BIT 7,E` CB 7B, R253 -/
  | bit7E
  /-- `BIT 7,H` CB 7C, R253 -/
  | bit7H
  /-- `BIT 7,L` CB 7D, R253 -/
  | bit7L
  /-- `BIT 7,(HL)` CB 7E, R253 -/
  | bit7IndHl
  /-- `BIT 7,A` CB 7F, R253 -/
  | bit7A
  /-- `RES 0,B` CB 80, R254 -/
  | res0B
  /-- `RES 0,C` CB 81, R254 -/
  | res0C
  /-- `RES 0,D` CB 82, R254 -/
  | res0D
  /-- `RES 0,E` CB 83, R254 -/
  | res0E
  /-- `RES 0,H` CB 84, R254 -/
  | res0H
  /-- `RES 0,L` CB 85, R254 -/
  | res0L
  /-- `RES 0,(HL)` CB 86, R254 -/
  | res0IndHl
  /-- `RES 0,A` CB 87, R254 -/
  | res0A
  /-- `RES 1,B` CB 88, R254 -/
  | res1B
  /-- `RES 1,C` CB 89, R254 -/
  | res1C
  /-- `RES 1,D` CB 8A, R254 -/
  | res1D
  /-- `RES 1,E` CB 8B, R254 -/
  | res1E
  /-- `RES 1,H` CB 8C, R254 -/
  | res1H
  /-- `RES 1,L` CB 8D, R254 -/
  | res1L
  /-- `RES 1,(HL)` CB 8E, R254 -/
  | res1IndHl
  /-- `RES 1,A` CB 8F, R254 -/
  | res1A
  /-- `RES 2,B` CB 90, R254 -/
  | res2B
  /-- `RES 2,C` CB 91, R254 -/
  | res2C
  /-- `RES 2,D` CB 92, R254 -/
  | res2D
  /-- `RES 2,E` CB 93, R254 -/
  | res2E
  /-- `RES 2,H` CB 94, R254 -/
  | res2H
  /-- `RES 2,L` CB 95, R254 -/
  | res2L
  /-- `RES 2,(HL)` CB 96, R254 -/
  | res2IndHl
  /-- `RES 2,A` CB 97, R254 -/
  | res2A
  /-- `RES 3,B` CB 98, R254 -/
  | res3B
  /-- `RES 3,C` CB 99, R254 -/
  | res3C
  /-- `RES 3,D` CB 9A, R254 -/
  | res3D
  /-- `RES 3,E` CB 9B, R254 -/
  | res3E
  /-- `RES 3,H` CB 9C, R254 -/
  | res3H
  /-- `RES 3,L` CB 9D, R254 -/
  | res3L
  /-- `RES 3,(HL)` CB 9E, R254 -/
  | res3IndHl
  /-- `RES 3,A` CB 9F, R254 -/
  | res3A
  /-- `RES 4,B` CB A0, R254 -/
  | res4B
  /-- `RES 4,C` CB A1, R254 -/
  | res4C
  /-- `RES 4,D` CB A2, R254 -/
  | res4D
  /-- `RES 4,E` CB A3, R254 -/
  | res4E
  /-- `RES 4,H` CB A4, R254 -/
  | res4H
  /-- `RES 4,L` CB A5, R254 -/
  | res4L
  /-- `RES 4,(HL)` CB A6, R254 -/
  | res4IndHl
  /-- `RES 4,A` CB A7, R254 -/
  | res4A
  /-- `RES 5,B` CB A8, R254 -/
  | res5B
  /-- `RES 5,C` CB A9, R254 -/
  | res5C
  /-- `RES 5,D` CB AA, R254 -/
  | res5D
  /-- `RES 5,E` CB AB, R254 -/
  | res5E
  /-- `RES 5,H` CB AC, R254 -/
  | res5H
  /-- `RES 5,L` CB AD, R254 -/
  | res5L
  /-- `RES 5,(HL)` CB AE, R254 -/
  | res5IndHl
  /-- `RES 5,A` CB AF, R254 -/
  | res5A
  /-- `RES 6,B` CB B0, R254 -/
  | res6B
  /-- `RES 6,C` CB B1, R254 -/
  | res6C
  /-- `RES 6,D` CB B2, R254 -/
  | res6D
  /-- `RES 6,E` CB B3, R254 -/
  | res6E
  /-- `RES 6,H` CB B4, R254 -/
  | res6H
  /-- `RES 6,L` CB B5, R254 -/
  | res6L
  /-- `RES 6,(HL)` CB B6, R254 -/
  | res6IndHl
  /-- `RES 6,A` CB B7, R254 -/
  | res6A
  /-- `RES 7,B` CB B8, R254 -/
  | res7B
  /-- `RES 7,C` CB B9, R254 -/
  | res7C
  /-- `RES 7,D` CB BA, R254 -/
  | res7D
  /-- `RES 7,E` CB BB, R254 -/
  | res7E
  /-- `RES 7,H` CB BC, R254 -/
  | res7H
  /-- `RES 7,L` CB BD, R254 -/
  | res7L
  /-- `RES 7,(HL)` CB BE, R254 -/
  | res7IndHl
  /-- `RES 7,A` CB BF, R254 -/
  | res7A
  /-- `SET 0,B` CB C0, R255 -/
  | set0B
  /-- `SET 0,C` CB C1, R255 -/
  | set0C
  /-- `SET 0,D` CB C2, R255 -/
  | set0D
  /-- `SET 0,E` CB C3, R255 -/
  | set0E
  /-- `SET 0,H` CB C4, R255 -/
  | set0H
  /-- `SET 0,L` CB C5, R255 -/
  | set0L
  /-- `SET 0,(HL)` CB C6, R255 -/
  | set0IndHl
  /-- `SET 0,A` CB C7, R255 -/
  | set0A
  /-- `SET 1,B` CB C8, R255 -/
  | set1B
  /-- `SET 1,C` CB C9, R255 -/
  | set1C
  /-- `SET 1,D` CB CA, R255 -/
  | set1D
  /-- `SET 1,E` CB CB, R255 -/
  | set1E
  /-- `SET 1,H` CB CC, R255 -/
  | set1H
  /-- `SET 1,L` CB CD, R255 -/
  | set1L
  /-- `SET 1,(HL)` CB CE, R255 -/
  | set1IndHl
  /-- `SET 1,A` CB CF, R255 -/
  | set1A
  /-- `SET 2,B` CB D0, R255 -/
  | set2B
  /-- `SET 2,C` CB D1, R255 -/
  | set2C
  /-- `SET 2,D` CB D2, R255 -/
  | set2D
  /-- `SET 2,E` CB D3, R255 -/
  | set2E
  /-- `SET 2,H` CB D4, R255 -/
  | set2H
  /-- `SET 2,L` CB D5, R255 -/
  | set2L
  /-- `SET 2,(HL)` CB D6, R255 -/
  | set2IndHl
  /-- `SET 2,A` CB D7, R255 -/
  | set2A
  /-- `SET 3,B` CB D8, R255 -/
  | set3B
  /-- `SET 3,C` CB D9, R255 -/
  | set3C
  /-- `SET 3,D` CB DA, R255 -/
  | set3D
  /-- `SET 3,E` CB DB, R255 -/
  | set3E
  /-- `SET 3,H` CB DC, R255 -/
  | set3H
  /-- `SET 3,L` CB DD, R255 -/
  | set3L
  /-- `SET 3,(HL)` CB DE, R255 -/
  | set3IndHl
  /-- `SET 3,A` CB DF, R255 -/
  | set3A
  /-- `SET 4,B` CB E0, R255 -/
  | set4B
  /-- `SET 4,C` CB E1, R255 -/
  | set4C
  /-- `SET 4,D` CB E2, R255 -/
  | set4D
  /-- `SET 4,E` CB E3, R255 -/
  | set4E
  /-- `SET 4,H` CB E4, R255 -/
  | set4H
  /-- `SET 4,L` CB E5, R255 -/
  | set4L
  /-- `SET 4,(HL)` CB E6, R255 -/
  | set4IndHl
  /-- `SET 4,A` CB E7, R255 -/
  | set4A
  /-- `SET 5,B` CB E8, R255 -/
  | set5B
  /-- `SET 5,C` CB E9, R255 -/
  | set5C
  /-- `SET 5,D` CB EA, R255 -/
  | set5D
  /-- `SET 5,E` CB EB, R255 -/
  | set5E
  /-- `SET 5,H` CB EC, R255 -/
  | set5H
  /-- `SET 5,L` CB ED, R255 -/
  | set5L
  /-- `SET 5,(HL)` CB EE, R255 -/
  | set5IndHl
  /-- `SET 5,A` CB EF, R255 -/
  | set5A
  /-- `SET 6,B` CB F0, R255 -/
  | set6B
  /-- `SET 6,C` CB F1, R255 -/
  | set6C
  /-- `SET 6,D` CB F2, R255 -/
  | set6D
  /-- `SET 6,E` CB F3, R255 -/
  | set6E
  /-- `SET 6,H` CB F4, R255 -/
  | set6H
  /-- `SET 6,L` CB F5, R255 -/
  | set6L
  /-- `SET 6,(HL)` CB F6, R255 -/
  | set6IndHl
  /-- `SET 6,A` CB F7, R255 -/
  | set6A
  /-- `SET 7,B` CB F8, R255 -/
  | set7B
  /-- `SET 7,C` CB F9, R255 -/
  | set7C
  /-- `SET 7,D` CB FA, R255 -/
  | set7D
  /-- `SET 7,E` CB FB, R255 -/
  | set7E
  /-- `SET 7,H` CB FC, R255 -/
  | set7H
  /-- `SET 7,L` CB FD, R255 -/
  | set7L
  /-- `SET 7,(HL)` CB FE, R255 -/
  | set7IndHl
  /-- `SET 7,A` CB FF, R255 -/
  | set7A
  -- Control transfer (45_control.md), no immediate
  /-- `RET NZ` C0, R279 -/
  | retNz
  /-- `RST 0x00` C7, R281 -/
  | rst00
  /-- `RET Z` C8, R279 -/
  | retZ
  /-- `RET` C9, R278 -/
  | ret
  /-- `RST 0x08` CF, R281 -/
  | rst08
  /-- `RET NC` D0, R279 -/
  | retNc
  /-- `RST 0x10` D7, R281 -/
  | rst10
  /-- `RET C` D8, R279 -/
  | retC
  /-- `RETI` D9, R280 -/
  | reti
  /-- `RST 0x18` DF, R281 -/
  | rst18
  /-- `RST 0x20` E7, R281 -/
  | rst20
  /-- `JP HL` E9, R273 -/
  | jpHl
  /-- `RST 0x28` EF, R281 -/
  | rst28
  /-- `RST 0x30` F7, R281 -/
  | rst30
  /-- `RST 0x38` FF, R281 -/
  | rst38
  -- System and miscellaneous (46_misc.md), no immediate
  /-- `NOP` 00, R290 -/
  | nop
  /-- `HALT` 76, R291 -/
  | halt
  /-- `DI` F3, R293 -/
  | di
  /-- `EI` FB, R294 -/
  | ei
  deriving DecidableEq, Repr

end Sys2Proof
end

