-- ==== Sys2Proof/Machine/Flags.lean ====
section
/-! DEFINITION. The flag byte (10_state.md R26) and every flag computation of the spec: the 8-bit primitives (42_alu8.md R190,
R191), the accumulator operations, increments and adjustments, the rotates and shifts (44_rotate_shift_bit.md), the bit test and
the 16-bit sums (41_load16.md R174, 43_alu16.md R230). -/
namespace Sys2Proof.Machine

/-- The four flags (R26). -/
structure Flags where
  /-- Zero, bit 7 -/
  z : Bool
  /-- Subtract / Negative, bit 6 -/
  n : Bool
  /-- Half-carry, bit 5 -/
  h : Bool
  /-- Carry, bit 4 -/
  c : Bool
  deriving DecidableEq, Repr

/-- `(z << 7) | (n << 6) | (h << 5) | (c << 4)` (R26). -/
def Flags.pack (f : Flags) : Byte :=
  (bitByte f.z <<< 7) ||| (bitByte f.n <<< 6) ||| (bitByte f.h <<< 5) ||| (bitByte f.c <<< 4)

/-- The flags of a value of `F` (R26). -/
def Flags.ofByte (v : Byte) : Flags := { z := bitAt v 7, n := bitAt v 6, h := bitAt v 5, c := bitAt v 4 }

/-- An 8-bit result with the four flags it sets. -/
structure AluResult where
  value : Byte
  flags : Flags
  deriving DecidableEq, Repr

/-- `Add8(a, b, cin)` (R190). -/
def add8 (a b : Byte) (cin : Bool) : AluResult :=
  let s := a.toNat + b.toNat + cin.toNat
  let r := BitVec.ofNat 8 s
  { value := r
    flags := { z := r == 0#8, n := false, h := a.toNat % 16 + b.toNat % 16 + cin.toNat > 0x0F, c := s > 0xFF } }

/-- `Sub8(a, b, cin)` (R191). -/
def sub8 (a b : Byte) (cin : Bool) : AluResult :=
  let d : Int := (a.toNat : Int) - b.toNat - cin.toNat
  let r := BitVec.ofInt 8 d
  { value := r
    flags := { z := r == 0#8, n := true, h := a.toNat % 16 < b.toNat % 16 + cin.toNat, c := a.toNat < b.toNat + cin.toNat } }

/-- `alu[y]` on `A = a` and the second operand `v`, with the old carry flag: the result and its flags (R193 to R200). For `CP`
the result is not written to `A` (R200). -/
def aluEval (op : AluOp) (a v : Byte) (carry : Bool) : AluResult :=
  match op with
  | .add => add8 a v false
  | .adc => add8 a v carry
  | .sub => sub8 a v false
  | .sbc => sub8 a v carry
  | .and => { value := a &&& v, flags := { z := (a &&& v) == 0#8, n := false, h := true, c := false } }
  | .xor => { value := a ^^^ v, flags := { z := (a ^^^ v) == 0#8, n := false, h := false, c := false } }
  | .or => { value := a ||| v, flags := { z := (a ||| v) == 0#8, n := false, h := false, c := false } }
  | .cp => sub8 a v false

/-- A byte plus one: the flags Z, N, H of the sum, flag C as it was (R201, R202). -/
def incEval (v : Byte) (old : Flags) : AluResult :=
  let r := add8 v 1 false
  { value := r.value, flags := { r.flags with c := old.c } }

/-- A byte minus one: the flags Z, N, H of the difference, flag C as it was (R203, R204). -/
def decEval (v : Byte) (old : Flags) : AluResult :=
  let r := sub8 v 1 false
  { value := r.value, flags := { r.flags with c := old.c } }

/-- `DAA` (R205). -/
def daaEval (a : Byte) (old : Flags) : AluResult :=
  if old.n then
    let adj : Byte := (if old.h then 0x06 else 0x00) ||| (if old.c then 0x60 else 0x00)
    let r := a - adj
    { value := r, flags := { z := r == 0#8, n := true, h := false, c := old.c } }
  else
    let high := old.c || decide (a.toNat > 0x99)
    let adj : Byte := (if old.h || decide (a.toNat % 16 > 0x09) then 0x06 else 0x00) ||| (if high then 0x60 else 0x00)
    let r := a + adj
    { value := r, flags := { z := r == 0#8, n := false, h := false, c := high } }

/-- `CPL` (R206). -/
def cplEval (a : Byte) (old : Flags) : AluResult := { value := ~~~a, flags := { old with n := true, h := true } }

/-- The flags after `SCF` (R207). -/
def scfFlags (old : Flags) : Flags := { old with n := false, h := false, c := true }

/-- The flags after `CCF` (R208). -/
def ccfFlags (old : Flags) : Flags := { old with n := false, h := false, c := !old.c }

/-- `rot[y]` on a value, with the old carry flag: the result, and the flags of the extended forms, Z from the result, N = H = 0,
C the bit moved out (R245 to R252). -/
def rotEval (op : RotOp) (v : Byte) (carry : Bool) : AluResult :=
  let res : Byte :=
    match op with
    | .rlc => (v <<< 1) ||| bitByte (bitAt v 7)
    | .rrc => (v >>> 1) ||| (bitByte (bitAt v 0) <<< 7)
    | .rl => (v <<< 1) ||| bitByte carry
    | .rr => (v >>> 1) ||| (bitByte carry <<< 7)
    | .sla => v <<< 1
    | .sra => (v >>> 1) ||| (v &&& 0x80)
    | .swap => ((v <<< 4) &&& 0xF0) ||| (v >>> 4)
    | .srl => v >>> 1
  let out : Bool :=
    match op with
    | .rlc | .rl | .sla => bitAt v 7
    | .rrc | .rr | .sra | .srl => bitAt v 0
    | .swap => false
  { value := res, flags := { z := res == 0#8, n := false, h := false, c := out } }

/-- The accumulator rotates of the primary table: as `rotEval`, but Z is always 0 (R241 to R244). -/
def rotAccEval (op : RotOp) (a : Byte) (carry : Bool) : AluResult :=
  let r := rotEval op a carry
  { value := r.value, flags := { r.flags with z := false } }

/-- The flags after `BIT b`: Z the complement of the bit, N = 0, H = 1, flag C unchanged (R253). -/
def bitTestFlags (b : Fin 8) (v : Byte) (old : Flags) : Flags := { z := !bitAt v b.val, n := false, h := true, c := old.c }

/-- `ADD HL,rr`: the sum and the flags, Z unchanged, N = 0, H the carry out of bit 11, C the carry out of bit 15 (R230). -/
def add16Eval (x v : Word) (old : Flags) : Word × Flags :=
  (BitVec.ofNat 16 (x.toNat + v.toNat),
    { z := old.z, n := false, h := x.toNat % 4096 + v.toNat % 4096 > 0x0FFF, c := x.toNat + v.toNat > 0xFFFF })

/-- `SP` plus the signed offset `n`, and the flags, Z = N = 0, H and C the carries out of bits 3 and 7 of the unsigned sum of
the low byte of `SP` and `n` (R174, R233). -/
def spOffsetEval (sp : Word) (n : Byte) : Word × Flags :=
  (sp + sext16 n,
    { z := false, n := false, h := sp.toNat % 16 + n.toNat % 16 > 0x0F, c := sp.toNat % 256 + n.toNat > 0xFF })

end Sys2Proof.Machine
end

