-- ==== Sys2Proof/Config.lean ====
section
/-! DEFINITION. The parameters that the spec leaves OPEN (00_scope.md R4), as constants without a body: nothing in Lean can
evaluate one or prove a value of it. Fixed parameters (ISR_ADDR, TIMER_PERIOD, DIV_PERIOD, the cycle costs) are definitions
beside the operations that use them. -/
namespace Sys2Proof.Config

/-- DEFAULT_READ, OPEN (R4, R70, D8): what a read of an unmapped address delivers. The launch value of
`State.params.defaultRead` (log 1). -/
opaque defaultRead : Byte

/-- DMA_PAGE_MAX, OPEN (R4, R79, D13): the last valid source page of the DMA copy. The launch value of
`State.params.dmaPageMax` (log 1). -/
opaque dmaPageMax : Byte

/-- INT_ENTRY_CYCLES, OPEN (R4, R317, D18): the cost of an interrupt-entry step. The launch value of
`State.params.intEntryCycles` (log 1). -/
opaque intEntryCycles : Nat

/-- INIT_MEM, OPEN ("unspecified; a model treats it as arbitrary", R4, R44, D31): the byte of `RAM`, `OAM` or `HRAM` at an address
that nothing has placed or written (log 2). -/
opaque initMem (address : Nat) : Byte

/-- ROM, OPEN (the program image, R4, R64, D10): the byte at an address of the image that nothing has loaded (log 2). -/
opaque rom (address : Nat) : Byte

/-- BOOT_ROM, OPEN (R4, R62, D11): the byte at an offset that nothing has loaded (log 2). -/
opaque bootRom (offset : Nat) : Byte

/-- JoypadRead, OPEN (R4, R83, D35, U19): what a read of JOYP delivers, from the stored selector byte and the button state.
The button state is an uninterpreted number (log 4), so the value read is free. -/
opaque joypadRead (selector : Byte) (buttons : Nat) : Byte

end Sys2Proof.Config
end

