-- ==== Sys2Proof/Machine/State.lean ====
section
/-! DEFINITION. The machine's state as plain data (10_state.md), the reasons a step can stop (60_exceptions.md R310, R331) and
the state right after reset (R44, R360). -/
namespace Sys2Proof.Machine

/-- `mode`: the three power states (10_state.md R29, 60_exceptions.md R331). -/
inductive Mode where
  | running | halted | stopped
  deriving DecidableEq, Repr

/-- The named registers of the hardware-register bank (20_memory.md R68). -/
inductive HwReg where
  | joyp | sb | sc | div | tima | tma | tac | intFlag | lcdc | stat | scy | scx | ly | dma | bgp | obp0 | obp1 | boot
  | intEnable
  deriving DecidableEq, Repr

/-- What an address decodes to (20_memory.md R61). -/
inductive Region where
  | bootOverlay | rom | ram | oam
  | register (r : HwReg)
  | hram | unmapped
  deriving DecidableEq, Repr

/-- The five interrupt sources in priority order, index 0 to 4 (60_exceptions.md R313). -/
inductive IntSource where
  | vblank | lcdStatus | timerOverflow | serialLink | joypadPress
  deriving DecidableEq, Repr

/-- The stored bytes of the nineteen hardware registers (10_state.md R32 to R39, R41). -/
structure HwRegs where
  /-- `JOYP` 0xFF00, the stored selector (R41, R83) -/
  joyp : Byte
  /-- `SB` 0xFF01 (R41, R84) -/
  sb : Byte
  /-- `SC` 0xFF02 (R41, R84) -/
  sc : Byte
  /-- `DIV` 0xFF04 (R34, R76) -/
  div : Byte
  /-- `TIMA` 0xFF05 (R35, R77) -/
  tima : Byte
  /-- `TMA` 0xFF06 (R36, R77) -/
  tma : Byte
  /-- `TAC` 0xFF07 (R37, R77) -/
  tac : Byte
  /-- `IF` 0xFF0F (R33, R78) -/
  intFlag : Byte
  /-- `LCDC` 0xFF40 (R41, R84) -/
  lcdc : Byte
  /-- `STAT` 0xFF41 (R41, R82) -/
  stat : Byte
  /-- `SCY` 0xFF42 (R41, R84) -/
  scy : Byte
  /-- `SCX` 0xFF43 (R41, R84) -/
  scx : Byte
  /-- `LY` 0xFF44 (R41, R84) -/
  ly : Byte
  /-- `DMA` 0xFF46 (R38, R79) -/
  dma : Byte
  /-- `BGP` 0xFF47 (R41, R84) -/
  bgp : Byte
  /-- `OBP0` 0xFF48 (R41, R84) -/
  obp0 : Byte
  /-- `OBP1` 0xFF49 (R41, R84) -/
  obp1 : Byte
  /-- `BOOT` 0xFF50, the stored byte (R39, R81) -/
  boot : Byte
  /-- `IE` 0xFFFF (R32, R78) -/
  intEnable : Byte
  deriving DecidableEq, Repr

/-- The copy of the six register cells that interrupt entry writes (10_state.md R30). -/
structure Snapshot where
  af : Word
  bc : Word
  de : Word
  hl : Word
  sp : Word
  pc : Word
  deriving DecidableEq, Repr

/-- A memory: (address, byte) pairs, addresses strictly rising. It lists exactly the addresses that hold a placed or a written
byte; every other address holds a byte that nothing constrains (log 2). -/
abbrev Memory := List Host.Cell

/-- The OPEN parameters of 00_scope.md R4: the ARGUMENTS of the model, handed to `State.resetWith`, which no step writes
(log 1). -/
structure Params where
  /-- `DEFAULT_READ` (R70) -/
  defaultRead : Byte
  /-- `DMA_PAGE_MAX` (R79) -/
  dmaPageMax : Byte
  /-- `INT_ENTRY_CYCLES` (R317) -/
  intEntryCycles : Nat
  /-- `ROM`, the loaded bytes of the program image by address (R42, R64); every other byte is `Config.rom` -/
  rom : Memory
  /-- `BOOT_ROM`, the loaded bytes by offset 0x00 to 0xFF (R42, R62); every other byte is `Config.bootRom` -/
  bootRom : Memory
  deriving DecidableEq, Repr

/-- The state of the core (10_state.md). -/
structure State where
  /-- the cell of `A` (high) and `F` (low) (R20 to R23) -/
  af : Word
  /-- the cell of `B` and `C` (R20, R21) -/
  bc : Word
  /-- the cell of `D` and `E` (R20, R21) -/
  de : Word
  /-- the cell of `H` and `L` (R20, R21) -/
  hl : Word
  /-- the stack pointer (R24) -/
  sp : Word
  /-- the program counter (R25) -/
  pc : Word
  /-- `IME`, interrupts enabled (R28) -/
  ime : Bool
  /-- the power state (R29) -/
  mode : Mode
  /-- the register set saved by interrupt entry, never read (R30) -/
  saved : Option Snapshot
  /-- the running cycle counter (R31) -/
  cycles : Nat
  /-- the boot overlay is active (R39) -/
  bootEnabled : Bool
  /-- cycles toward the next `DIV` increment (R40) -/
  divAcc : Nat
  /-- cycles toward the next `TIMA` increment (R40) -/
  timaAcc : Nat
  /-- the hardware registers' stored bytes (R32 to R39, R41) -/
  io : HwRegs
  /-- `RAM`, `OAM` and `HRAM`, the placed and written bytes by address (R42); every other byte is `Config.initMem` (log 2) -/
  mem : Memory
  /-- the model's field: the open parameters, `ROM` and `BOOT_ROM` among them; no state of the spec's, never written (R4, log 1) -/
  params : Params
  /-- the model's field: the host's button state as an uninterpreted number (R43, R83, log 4) -/
  buttons : Nat
  deriving DecidableEq, Repr

/-- The causes of the Fatal class (60_exceptions.md R310), each with the value it records. -/
inductive FatalCause where
  /-- dispatching one of the eleven removed opcodes (R121, R296) -/
  | removedOpcode (opcode : Byte)
  /-- "likewise fatal, signaling incomplete coverage": the class is empty, nothing raises it (R122, R310) -/
  | unimplementedOpcode (opcode : Byte)
  /-- "referencing an invalid internal register enumeration": nothing raises it (R310) -/
  | invalidEnumeration
  deriving DecidableEq, Repr

/-- Why the machine stops with no next state. -/
inductive Fault where
  /-- `raise Fatal(cause, byte)` (60_exceptions.md R311), raised by `execIllegal` alone; `left` is the state "as it was at the
  point of the raise" (`PC` one past the opcode). Safe: the run ends, as the spec says (log 6). -/
  | fatal (cause : FatalCause) (left : State)
  /-- Raised by `step` when `mode` is not Running: "the core has no step" (R331). Safe: the machine is stuck (log 5). -/
  | noStep (mode : Mode)
  deriving DecidableEq, Repr

/-- Why an instruction has no meaning here. -/
inductive Refusal where
  /-- An arm of `exec` whose instruction has no meaning yet; no arm is so. Safe. -/
  | notModelled (mnemonic : String)
  deriving DecidableEq, Repr

/-- What a meaning answers: a next state, a fault or a refusal (00_scope.md R9). -/
abbrev Result := Host.Outcome State Fault Refusal

/-- The hardware registers at reset, all 0x00 (R44). -/
def HwRegs.reset : HwRegs :=
  { joyp := 0, sb := 0, sc := 0, div := 0, tima := 0, tma := 0, tac := 0, intFlag := 0, lcdc := 0, stat := 0, scy := 0,
    scx := 0, ly := 0, dma := 0, bgp := 0, obp0 := 0, obp1 := 0, boot := 0, intEnable := 0 }

/-- The state after reset for given arguments (R4, R44); `mem` is the part of `INIT_MEM` that is given. -/
def State.resetWith (params : Params) (mem : Memory) : State :=
  { af := 0x0000, bc := 0x0000, de := 0x0000, hl := 0x0000, sp := 0x0000, pc := 0x0000
    ime := false, mode := .running, saved := none, cycles := 0
    bootEnabled := true, divAcc := 0, timaAcc := 0
    io := HwRegs.reset, mem := mem, params := params, buttons := 0 }

/-- The machine right after reset, nothing loaded (R44, R360): every open parameter is an opaque constant of `Config`, and no
byte of `INIT_MEM`, `ROM` or `BOOT_ROM` is listed, so each is arbitrary (log 1, log 2, log 3). -/
def State.reset : State :=
  State.resetWith
    { defaultRead := Config.defaultRead, dmaPageMax := Config.dmaPageMax, intEntryCycles := Config.intEntryCycles
      rom := [], bootRom := [] } []

end Sys2Proof.Machine
end

