-- ==== Sys2Proof/Machine/Ops.lean ====
section
/-! DEFINITION. The named operations over registers and memory: byte and pair access (10_state.md R21 to R23), the memory
controller (20_memory.md), the stack (41_load16.md R170), the fatal condition, interrupt entry and the return from it, the timers
(60_exceptions.md). Instructions touch the state only through these. -/
namespace Sys2Proof.Machine

/-! ### Memory as a list of cells -/

/-- The canonical form: addresses strictly rising and below 65536 (log 2). -/
abbrev Memory.wf (m : Memory) : Prop := m.Pairwise (fun c d => c.1 < d.1) ∧ ∀ c ∈ m, c.1 < 0x10000

/-- The byte at an address; `unlisted` gives the byte of an address that the list does not hold. -/
def Memory.get (m : Memory) (unlisted : Nat → Byte) (a : Nat) : Byte :=
  match m with
  | [] => unlisted a
  | c :: rest => if c.1 = a then c.2 else Memory.get rest unlisted a

/-- Put a cell at its place in the order of addresses. -/
def Memory.insertCell (m : Memory) (a : Nat) (v : Byte) : Memory :=
  match m with
  | [] => [(a, v)]
  | c :: rest => if a < c.1 then (a, v) :: c :: rest else c :: Memory.insertCell rest a v

/-- Store a byte at an address, keeping the canonical form: the address is listed once, with the new byte. -/
def Memory.set (m : Memory) (a : Nat) (v : Byte) : Memory := Memory.insertCell (m.filter (fun c => c.1 != a)) a v

/-- The stored byte of `RAM`, `OAM` or `HRAM` at an address (R42); `INIT_MEM` where nothing is placed or written (R44). -/
def State.memByte (s : State) (a : Nat) : Byte := s.mem.get Config.initMem a

/-- The byte of `ROM` at an address (R42, R64). -/
def State.romByte (s : State) (a : Nat) : Byte := s.params.rom.get Config.rom a

/-- The byte of `BOOT_ROM` at an offset (R42, R62). -/
def State.bootByte (s : State) (a : Nat) : Byte := s.params.bootRom.get Config.bootRom a

/-! ### Registers -/

/-- Read of `A` (R21). -/
def State.getA (s : State) : Byte := highByte s.af

/-- Read of `F`: "the low nibble of F is always read as zero" (R22). -/
def State.getF (s : State) : Byte := lowByte s.af &&& 0xF0

/-- `F <- v` stores `v & 0xF0` (R22) and leaves `A` (R21). -/
def State.setF (s : State) (v : Byte) : State := { s with af := joinBytes (v &&& 0xF0) (highByte s.af) }

/-- Read of a byte register that an operand field can name (R21). -/
def State.getR8 (s : State) (r : Reg8) : Byte :=
  match r with
  | .b => highByte s.bc
  | .c => lowByte s.bc
  | .d => highByte s.de
  | .e => lowByte s.de
  | .h => highByte s.hl
  | .l => lowByte s.hl
  | .a => highByte s.af

/-- Write of a byte register: it "only overwrites its half of the containing word" (R21). -/
def State.setR8 (s : State) (r : Reg8) (v : Byte) : State :=
  match r with
  | .b => { s with bc := joinBytes (lowByte s.bc) v }
  | .c => { s with bc := joinBytes v (highByte s.bc) }
  | .d => { s with de := joinBytes (lowByte s.de) v }
  | .e => { s with de := joinBytes v (highByte s.de) }
  | .h => { s with hl := joinBytes (lowByte s.hl) v }
  | .l => { s with hl := joinBytes v (highByte s.hl) }
  | .a => { s with af := joinBytes (lowByte s.af) v }

/-- Read of `AF`: `(A << 8) | F` with `F[3:0] = 0` (R23). -/
def State.getAF (s : State) : Word := joinBytes s.getF s.getA

/-- Read of a pair of the load and arithmetic forms (R23, R114). -/
def State.getR16 (s : State) (p : Reg16) : Word :=
  match p with
  | .bc => s.bc
  | .de => s.de
  | .hl => s.hl
  | .sp => s.sp

/-- Write of a pair of the load and arithmetic forms (R23, R114). -/
def State.setR16 (s : State) (p : Reg16) (w : Word) : State :=
  match p with
  | .bc => { s with bc := w }
  | .de => { s with de := w }
  | .hl => { s with hl := w }
  | .sp => { s with sp := w }

/-- Read of a pair of `PUSH` and `POP` (R23, R114). -/
def State.getStk16 (s : State) (q : Stk16) : Word :=
  match q with
  | .bc => s.bc
  | .de => s.de
  | .hl => s.hl
  | .af => s.getAF

/-- Write of a pair of `PUSH` and `POP`; `AF <- w` stores `w & 0xFFF0` (R23). -/
def State.setStk16 (s : State) (q : Stk16) (w : Word) : State :=
  match q with
  | .bc => { s with bc := w }
  | .de => { s with de := w }
  | .hl => { s with hl := w }
  | .af => { s with af := w &&& 0xFFF0 }

/-- The four flags (R26). -/
def State.flags (s : State) : Flags := Flags.ofByte s.getF

/-- "flags Z N H C <- z n h c" (R26). -/
def State.setFlags (s : State) (f : Flags) : State := s.setF f.pack

/-- Add a cost to the running cycle counter (R31, R317). -/
def State.charge (s : State) (cost : Nat) : State := { s with cycles := s.cycles + cost }

/-! ### The hardware-register bank -/

/-- The bank (R68). -/
def HwReg.all : List HwReg :=
  [.joyp, .sb, .sc, .div, .tima, .tma, .tac, .intFlag, .lcdc, .stat, .scy, .scx, .ly, .dma, .bgp, .obp0, .obp1, .boot, .intEnable]

/-- The address of a register of the bank (R68). -/
def HwReg.addr (r : HwReg) : Word :=
  match r with
  | .joyp => 0xFF00
  | .sb => 0xFF01
  | .sc => 0xFF02
  | .div => 0xFF04
  | .tima => 0xFF05
  | .tma => 0xFF06
  | .tac => 0xFF07
  | .intFlag => 0xFF0F
  | .lcdc => 0xFF40
  | .stat => 0xFF41
  | .scy => 0xFF42
  | .scx => 0xFF43
  | .ly => 0xFF44
  | .dma => 0xFF46
  | .bgp => 0xFF47
  | .obp0 => 0xFF48
  | .obp1 => 0xFF49
  | .boot => 0xFF50
  | .intEnable => 0xFFFF

/-- The named register at an address, if there is one (R68). -/
def hwRegAt (a : Word) : Option HwReg := HwReg.all.find? (fun r => r.addr == a)

/-- The stored byte of a register. -/
def HwRegs.get (io : HwRegs) (r : HwReg) : Byte :=
  match r with
  | .joyp => io.joyp
  | .sb => io.sb
  | .sc => io.sc
  | .div => io.div
  | .tima => io.tima
  | .tma => io.tma
  | .tac => io.tac
  | .intFlag => io.intFlag
  | .lcdc => io.lcdc
  | .stat => io.stat
  | .scy => io.scy
  | .scx => io.scx
  | .ly => io.ly
  | .dma => io.dma
  | .bgp => io.bgp
  | .obp0 => io.obp0
  | .obp1 => io.obp1
  | .boot => io.boot
  | .intEnable => io.intEnable

/-- Set the stored byte of a register. -/
def HwRegs.set (io : HwRegs) (r : HwReg) (v : Byte) : HwRegs :=
  match r with
  | .joyp => { io with joyp := v }
  | .sb => { io with sb := v }
  | .sc => { io with sc := v }
  | .div => { io with div := v }
  | .tima => { io with tima := v }
  | .tma => { io with tma := v }
  | .tac => { io with tac := v }
  | .intFlag => { io with intFlag := v }
  | .lcdc => { io with lcdc := v }
  | .stat => { io with stat := v }
  | .scy => { io with scy := v }
  | .scx => { io with scx := v }
  | .ly => { io with ly := v }
  | .dma => { io with dma := v }
  | .bgp => { io with bgp := v }
  | .obp0 => { io with obp0 := v }
  | .obp1 => { io with obp1 := v }
  | .boot => { io with boot := v }
  | .intEnable => { io with intEnable := v }

/-- What a read of a register delivers: the stored byte (R76 to R84), but for `JOYP` the host's function of the stored selector
and the button state (R83, log 4). -/
def State.readRegister (s : State) (r : HwReg) : Byte :=
  match r with
  | .joyp => Config.joypadRead s.io.joyp s.buttons
  | r => s.io.get r

/-- What a write of a register does, but for the copy that a write of `DMA` may start: `DIV` and its prescaler are cleared
(R76), `STAT` takes bits 6:3 alone (R82), `BOOT` disables the overlay (R81), every other register stores the byte
(R77 to R79, R83, R84). -/
def State.writeRegister (s : State) (r : HwReg) (v : Byte) : State :=
  match r with
  | .div => { s with io := s.io.set .div 0x00, divAcc := 0 }
  | .stat => { s with io := s.io.set .stat ((s.io.stat &&& 0x87) ||| (v &&& 0x78)) }
  | .boot => { s with io := s.io.set .boot v, bootEnabled := false }
  | r => { s with io := s.io.set r v }

/-! ### The memory controller -/

/-- The address decoder, first match wins (R61). -/
def decodeAddr (bootEnabled : Bool) (a : Word) : Region :=
  if bootEnabled ∧ a.toNat ≤ 0x00FF then .bootOverlay
  else if a.toNat ≤ 0x7FFF then .rom
  else if a.toNat ≤ 0xFDFF then .ram
  else if a.toNat ≤ 0xFEFF then .oam
  else
    match hwRegAt a with
    | some r => .register r
    | none => if 0xFF80 ≤ a.toNat ∧ a.toNat ≤ 0xFFFE then .hram else .unmapped

/-- `MemRead(addr, 1)` (R62, R64, R66 to R70). It changes nothing (R85). -/
def State.memRead (s : State) (a : Word) : Byte :=
  match decodeAddr s.bootEnabled a with
  | .bootOverlay => s.bootByte a.toNat
  | .rom => s.romByte a.toNat
  | .ram | .oam | .hram => s.memByte a.toNat
  | .register r => s.readRegister r
  | .unmapped => s.params.defaultRead

/-- A byte write without the copy that a write of `DMA` may start: the overlay, ROM and unmapped addresses ignore it (R63, R65,
R71), RAM, OAM and HRAM store it (R66, R67, R69). -/
def State.memWriteNoCopy (s : State) (a : Word) (v : Byte) : State :=
  match decodeAddr s.bootEnabled a with
  | .bootOverlay | .rom | .unmapped => s
  | .ram | .oam | .hram => { s with mem := s.mem.set a.toNat v }
  | .register r => s.writeRegister r v

/-- The DMA copy from source page `page`, byte by byte in ascending order through the controller (R80). The destination is
always OAM, so no byte of it starts another copy (log 13). -/
def State.dmaCopy (s : State) (page : Byte) : State :=
  (List.range 256).foldl
    (fun t i => t.memWriteNoCopy (0xFE00#16 + BitVec.ofNat 16 i) (t.memRead (joinBytes (BitVec.ofNat 8 i) page))) s

/-- `MemWrite(addr, 1, v)` (R61 to R84): a write of `DMA` with a valid source page also performs the copy (R79). -/
def State.memWrite (s : State) (a : Word) (v : Byte) : State :=
  if a = HwReg.dma.addr ∧ v.toNat ≤ s.params.dmaPageMax.toNat then (s.memWriteNoCopy a v).dmaCopy v
  else s.memWriteNoCopy a v

/-- `MemRead(addr, 2)`, little-endian, the second byte at `addr + 1` modulo 65536 (R72, R74). -/
def State.memRead16 (s : State) (a : Word) : Word := joinBytes (s.memRead a) (s.memRead (a + 1))

/-- `MemWrite(addr, 2, w)`, low byte first (R73, R74). -/
def State.memWrite16 (s : State) (a w : Word) : State := (s.memWrite a (lowByte w)).memWrite (a + 1) (highByte w)

/-! ### The stack -/

/-- `Push16(w)` (R170). -/
def State.push16 (s : State) (w : Word) : State :=
  let t := { s with sp := s.sp - 2 }
  t.memWrite16 t.sp w

/-- `Pop16()`: the word and the state after it (R170). -/
def State.pop16 (s : State) : Word × State := (s.memRead16 s.sp, { s with sp := s.sp + 2 })

/-! ### Exceptions -/

/-- `raise Fatal(cause, byte)`: the run ends with the state as it is at this point (R9, R311). -/
def State.raiseFatal (s : State) (cause : FatalCause) : Result := .fault (.fatal cause s)

/-- The sources in priority order (R313). -/
def IntSource.all : List IntSource := [.vblank, .lcdStatus, .timerOverflow, .serialLink, .joypadPress]

/-- The index of a source: its bit in `IF` and `IE` (R313). -/
def IntSource.index (i : IntSource) : Nat :=
  match i with
  | .vblank => 0
  | .lcdStatus => 1
  | .timerOverflow => 2
  | .serialLink => 3
  | .joypadPress => 4

/-- `ISR_ADDR`, the fixed service address of a source (R313). -/
def IntSource.isrAddr (i : IntSource) : Word :=
  match i with
  | .vblank => 0x0040
  | .lcdStatus => 0x0048
  | .timerOverflow => 0x0050
  | .serialLink => 0x0058
  | .joypadPress => 0x0060

/-- `GetIsr(m)`: the source of the least index in 0..4 whose bit is set, or none (R316). -/
def getIsr (m : Byte) : Option IntSource := IntSource.all.find? (fun i => bitAt m i.index)

/-- The interrupt that the next step takes, if any: `IME` set and the source both pending and enabled (R314, R317). -/
def State.pendingInterrupt (s : State) : Option IntSource :=
  if s.ime then getIsr (s.io.intEnable &&& s.io.intFlag) else none

/-- The six register cells (R30). -/
def State.snapshot (s : State) : Snapshot :=
  { af := s.getAF, bc := s.bc, de := s.de, hl := s.hl, sp := s.sp, pc := s.pc }

/-- `InterruptEntry(addr, i)`: TAKING an interrupt, in the order of R318. -/
def State.interruptEntry (s : State) (i : IntSource) : State :=
  let s1 := { s with io := s.io.set .intFlag (s.io.intFlag &&& ~~~(oneBit i.index)) }
  let s2 := { s1 with saved := some s1.snapshot, ime := false }
  let s3 := s2.push16 s2.pc
  { s3 with pc := i.isrAddr }

/-- The return from an interrupt routine: interrupts on, then an ordinary return; `saved` is not read (R280, R319). -/
def State.returnFromInterrupt (s : State) : State :=
  let r := ({ s with ime := true } : State).pop16
  { r.2 with pc := r.1 }

/-! ### Timers -/

/-- `DIV_PERIOD` (R324, R326). -/
def divPeriod : Nat := 256

/-- `TIMER_PERIOD[TAC[1:0]]` (R326). -/
def timerPeriod (tac : Byte) : Nat :=
  match bitAt tac 1, bitAt tac 0 with
  | false, false => 1024
  | false, true => 16
  | true, false => 64
  | true, true => 256

/-- The divider's part of the timer advance: one increment of `DIV` for each full period of `div_acc` (R324). -/
def State.advanceDiv (s : State) (c : Nat) : State :=
  let acc := s.divAcc + c
  { s with divAcc := acc % divPeriod, io := s.io.set .div (s.io.div + BitVec.ofNat 8 (acc / divPeriod)) }

/-- One tick of the timer counter: on the wrap from 0xFF it reloads from `TMA` and the timer-overflow bit is set (R325). -/
def HwRegs.tickTima (io : HwRegs) : HwRegs :=
  if io.tima = 0xFF then (io.set .tima io.tma).set .intFlag (io.intFlag ||| 0x04) else io.set .tima (io.tima + 1)

/-- `n` ticks of the timer counter. -/
def HwRegs.tickTimaN (io : HwRegs) (n : Nat) : HwRegs :=
  match n with
  | 0 => io
  | n + 1 => (HwRegs.tickTimaN io n).tickTima

/-- The timer counter's part of the timer advance, while the start bit `TAC[2]` is set: one tick for each full period of
`tima_acc` (R325). -/
def State.advanceTima (s : State) (c : Nat) : State :=
  if bitAt s.io.tac 2 then
    let acc := s.timaAcc + c
    let period := timerPeriod s.io.tac
    { s with timaAcc := acc % period, io := s.io.tickTimaN (acc / period) }
  else s

/-- `TimerAdvance(c)` (R323). -/
def State.timerAdvance (s : State) (c : Nat) : State := (s.advanceDiv c).advanceTima c

/-- What follows a step that returns a cost: the timers advance by the cost, which is what the step added to `cycles` (R317,
R327, log 12), and the host's button state is open again (R332, log 4). -/
def State.endStep (before after : State) : State :=
  let t := after.timerAdvance (after.cycles - before.cycles)
  { t with buttons := before.buttons + 1 }

end Sys2Proof.Machine
end

