-- ==== Sys2Proof/Machine/Operands.lean ====
section
/-! DEFINITION. The operand forms: `r8[i]` as a register or the memory byte at `HL` (30_encoding.md R113), high-page addresses
(R117), relative targets (R119), conditions (R115, 45_control.md R270), restart targets (R281). -/
namespace Sys2Proof.Machine

/-- Read of `r8[i]`: `r8[6]` is `MemRead(HL, 1)` (R113). -/
def State.readOperand (s : State) (o : Operand8) : Byte :=
  match o with
  | .reg r => s.getR8 r
  | .hlInd => s.memRead s.hl

/-- Write of `r8[i]`: `r8[6]` is `MemWrite(HL, 1, v)` (R113). -/
def State.writeOperand (s : State) (o : Operand8) (v : Byte) : State :=
  match o with
  | .reg r => s.setR8 r v
  | .hlInd => s.memWrite s.hl v

/-- A cost that depends on the operand form: `regCost` for a register, `memCost` for `(HL)` (R192, R240). -/
def operandCost (o : Operand8) (regCost memCost : Nat) : Nat :=
  match o with
  | .reg _ => regCost
  | .hlInd => memCost

/-- The high-page address `0xFF00 + n` (R117, R151 to R154). -/
def highPage (n : Byte) : Word := 0xFF00#16 + n.setWidth 16

/-- The target of a relative jump: `PC` after the immediate, plus the signed offset, modulo 65536 (R119, R274). -/
def relTarget (pc : Word) (n : Byte) : Word := pc + sext16 n

/-- The truth of a condition (R115, R270). -/
def State.cond (s : State) (cc : Cond) : Bool :=
  match cc with
  | .nz => !s.flags.z
  | .z => s.flags.z
  | .nc => !s.flags.c
  | .c => s.flags.c

/-- The restart target `8*y` (R281). -/
def rstTarget (y : Fin 8) : Word := BitVec.ofNat 16 (8 * y.val)

end Sys2Proof.Machine
end

