-- ==== Sys2Proof/Machine/Load16.lean ====
section
/-! DEFINITION. The 16-bit loads and stack instructions (41_load16.md). -/
namespace Sys2Proof.Machine

/-- Write a pair and charge the cost. -/
def loadPair (p : Reg16) (w : Word) (cost : Nat) (s : State) : Result := .next ((s.setR16 p w).charge cost)

/-- Write `SP` plus the signed offset `n` to a pair and set the flags (R174, R233). -/
def spOffset (p : Reg16) (n : Byte) (cost : Nat) (s : State) : Result :=
  let r := spOffsetEval s.sp n
  .next (((s.setR16 p r.1).setFlags r.2).charge cost)

/-- `PUSH rr` (R175). -/
def pushPair (q : Stk16) (s : State) : Result := .next ((s.push16 (s.getStk16 q)).charge 16)

/-- `POP rr` (R176). -/
def popPair (q : Stk16) (s : State) : Result :=
  let r := s.pop16
  .next ((r.2.setStk16 q r.1).charge 12)

/-- `LD BC,nn` 01, R171. -/
def execLdBcNn (nn : Word) (s : State) : Result := loadPair .bc nn 12 s

/-- `LD DE,nn` 11, R171. -/
def execLdDeNn (nn : Word) (s : State) : Result := loadPair .de nn 12 s

/-- `LD HL,nn` 21, R171. -/
def execLdHlNn (nn : Word) (s : State) : Result := loadPair .hl nn 12 s

/-- `LD SP,nn` 31, R171. -/
def execLdSpNn (nn : Word) (s : State) : Result := loadPair .sp nn 12 s

/-- `LD (nn),SP` 08, R172. -/
def execLdIndNnSp (nn : Word) (s : State) : Result := .next ((s.memWrite16 nn s.sp).charge 20)

/-- `LD SP,HL` F9, R173. -/
def execLdSpHl (s : State) : Result := loadPair .sp s.hl 8 s

/-- `LD HL,SP+n` F8, R174. -/
def execLdHlSpN (n : Byte) (s : State) : Result := spOffset .hl n 12 s

/-- `PUSH BC` C5, R175. -/
def execPushBc (s : State) : Result := pushPair .bc s

/-- `PUSH DE` D5, R175. -/
def execPushDe (s : State) : Result := pushPair .de s

/-- `PUSH HL` E5, R175. -/
def execPushHl (s : State) : Result := pushPair .hl s

/-- `PUSH AF` F5, R175. -/
def execPushAf (s : State) : Result := pushPair .af s

/-- `POP BC` C1, R176. -/
def execPopBc (s : State) : Result := popPair .bc s

/-- `POP DE` D1, R176. -/
def execPopDe (s : State) : Result := popPair .de s

/-- `POP HL` E1, R176. -/
def execPopHl (s : State) : Result := popPair .hl s

/-- `POP AF` F1, R176. -/
def execPopAf (s : State) : Result := popPair .af s

end Sys2Proof.Machine
end

