-- ==== Sys2Proof/Machine/Alu16.lean ====
section
/-! DEFINITION. The 16-bit arithmetic instructions (43_alu16.md). -/
namespace Sys2Proof.Machine

/-- `ADD HL,rr` (R230). -/
def addHl (p : Reg16) (s : State) : Result :=
  let r := add16Eval s.hl (s.getR16 p) s.flags
  .next (((s.setR16 .hl r.1).setFlags r.2).charge 8)

/-- Add `d` to a pair modulo 65536, no flags (R231, R232). -/
def addPair (p : Reg16) (d : Word) (s : State) : Result := .next ((s.setR16 p (s.getR16 p + d)).charge 8)

/-- `ADD HL,BC` 09, R230. -/
def execAddHlBc (s : State) : Result := addHl .bc s

/-- `ADD HL,DE` 19, R230. -/
def execAddHlDe (s : State) : Result := addHl .de s

/-- `ADD HL,HL` 29, R230. -/
def execAddHlHl (s : State) : Result := addHl .hl s

/-- `ADD HL,SP` 39, R230. -/
def execAddHlSp (s : State) : Result := addHl .sp s

/-- `INC BC` 03, R231. -/
def execIncBc (s : State) : Result := addPair .bc 1 s

/-- `INC DE` 13, R231. -/
def execIncDe (s : State) : Result := addPair .de 1 s

/-- `INC HL` 23, R231. -/
def execIncHl (s : State) : Result := addPair .hl 1 s

/-- `INC SP` 33, R231. -/
def execIncSp (s : State) : Result := addPair .sp 1 s

/-- `DEC BC` 0B, R232. -/
def execDecBc (s : State) : Result := addPair .bc (-1) s

/-- `DEC DE` 1B, R232. -/
def execDecDe (s : State) : Result := addPair .de (-1) s

/-- `DEC HL` 2B, R232. -/
def execDecHl (s : State) : Result := addPair .hl (-1) s

/-- `DEC SP` 3B, R232. -/
def execDecSp (s : State) : Result := addPair .sp (-1) s

/-- `ADD SP,n` E8, R233. -/
def execAddSpN (n : Byte) (s : State) : Result := spOffset .sp n 16 s

end Sys2Proof.Machine
end

