-- ==== Sys2Proof/Machine/Alu8.lean ====
section
/-! DEFINITION. The 8-bit arithmetic and logic instructions (42_alu8.md). -/
namespace Sys2Proof.Machine

/-- Write a result to `A` and its flags to `F`. -/
def State.putAcc (s : State) (r : AluResult) : State := (s.setR8 .a r.value).setFlags r.flags

/-- An accumulator operation on `A` and `v`; `CP` writes the flags alone (R192 to R200). -/
def aluAcc (op : AluOp) (v : Byte) (cost : Nat) (s : State) : Result :=
  let r := aluEval op s.getA v s.flags.c
  match op with
  | .cp => .next ((s.setFlags r.flags).charge cost)
  | _ => .next ((s.putAcc r).charge cost)

/-- `INC r8[y]`: 4 cycles on a register, 12 on `(HL)`, whose read comes before the write (R201, R202). -/
def incOperand (o : Operand8) (s : State) : Result :=
  let r := incEval (s.readOperand o) s.flags
  .next (((s.writeOperand o r.value).setFlags r.flags).charge (operandCost o 4 12))

/-- `DEC r8[y]`: 4 cycles on a register, 12 on `(HL)`, whose read comes before the write (R203, R204). -/
def decOperand (o : Operand8) (s : State) : Result :=
  let r := decEval (s.readOperand o) s.flags
  .next (((s.writeOperand o r.value).setFlags r.flags).charge (operandCost o 4 12))

/-- Write an adjusted accumulator and its flags (R205, R206). -/
def adjustAcc (r : AluResult) (s : State) : Result := .next ((s.putAcc r).charge 4)

/-- `ADD A,B` 80, R193. -/
def execAddAB (s : State) : Result := aluAcc .add (s.readOperand (.reg .b)) 4 s

/-- `ADD A,C` 81, R193. -/
def execAddAC (s : State) : Result := aluAcc .add (s.readOperand (.reg .c)) 4 s

/-- `ADD A,D` 82, R193. -/
def execAddAD (s : State) : Result := aluAcc .add (s.readOperand (.reg .d)) 4 s

/-- `ADD A,E` 83, R193. -/
def execAddAE (s : State) : Result := aluAcc .add (s.readOperand (.reg .e)) 4 s

/-- `ADD A,H` 84, R193. -/
def execAddAH (s : State) : Result := aluAcc .add (s.readOperand (.reg .h)) 4 s

/-- `ADD A,L` 85, R193. -/
def execAddAL (s : State) : Result := aluAcc .add (s.readOperand (.reg .l)) 4 s

/-- `ADD A,A` 87, R193. -/
def execAddAA (s : State) : Result := aluAcc .add (s.readOperand (.reg .a)) 4 s

/-- `ADD A,(HL)` 86, R193. -/
def execAddAIndHl (s : State) : Result := aluAcc .add (s.readOperand .hlInd) 8 s

/-- `ADD A,n` C6, R193. -/
def execAddAN (n : Byte) (s : State) : Result := aluAcc .add n 8 s

/-- `ADC A,B` 88, R194. -/
def execAdcAB (s : State) : Result := aluAcc .adc (s.readOperand (.reg .b)) 4 s

/-- `ADC A,C` 89, R194. -/
def execAdcAC (s : State) : Result := aluAcc .adc (s.readOperand (.reg .c)) 4 s

/-- `ADC A,D` 8A, R194. -/
def execAdcAD (s : State) : Result := aluAcc .adc (s.readOperand (.reg .d)) 4 s

/-- `ADC A,E` 8B, R194. -/
def execAdcAE (s : State) : Result := aluAcc .adc (s.readOperand (.reg .e)) 4 s

/-- `ADC A,H` 8C, R194. -/
def execAdcAH (s : State) : Result := aluAcc .adc (s.readOperand (.reg .h)) 4 s

/-- `ADC A,L` 8D, R194. -/
def execAdcAL (s : State) : Result := aluAcc .adc (s.readOperand (.reg .l)) 4 s

/-- `ADC A,A` 8F, R194. -/
def execAdcAA (s : State) : Result := aluAcc .adc (s.readOperand (.reg .a)) 4 s

/-- `ADC A,(HL)` 8E, R194. -/
def execAdcAIndHl (s : State) : Result := aluAcc .adc (s.readOperand .hlInd) 8 s

/-- `ADC A,n` CE, R194. -/
def execAdcAN (n : Byte) (s : State) : Result := aluAcc .adc n 8 s

/-- `SUB A,B` 90, R195. -/
def execSubAB (s : State) : Result := aluAcc .sub (s.readOperand (.reg .b)) 4 s

/-- `SUB A,C` 91, R195. -/
def execSubAC (s : State) : Result := aluAcc .sub (s.readOperand (.reg .c)) 4 s

/-- `SUB A,D` 92, R195. -/
def execSubAD (s : State) : Result := aluAcc .sub (s.readOperand (.reg .d)) 4 s

/-- `SUB A,E` 93, R195. -/
def execSubAE (s : State) : Result := aluAcc .sub (s.readOperand (.reg .e)) 4 s

/-- `SUB A,H` 94, R195. -/
def execSubAH (s : State) : Result := aluAcc .sub (s.readOperand (.reg .h)) 4 s

/-- `SUB A,L` 95, R195. -/
def execSubAL (s : State) : Result := aluAcc .sub (s.readOperand (.reg .l)) 4 s

/-- `SUB A,A` 97, R195. -/
def execSubAA (s : State) : Result := aluAcc .sub (s.readOperand (.reg .a)) 4 s

/-- `SUB A,(HL)` 96, R195. -/
def execSubAIndHl (s : State) : Result := aluAcc .sub (s.readOperand .hlInd) 8 s

/-- `SUB A,n` D6, R195. -/
def execSubAN (n : Byte) (s : State) : Result := aluAcc .sub n 8 s

/-- `SBC A,B` 98, R196. -/
def execSbcAB (s : State) : Result := aluAcc .sbc (s.readOperand (.reg .b)) 4 s

/-- `SBC A,C` 99, R196. -/
def execSbcAC (s : State) : Result := aluAcc .sbc (s.readOperand (.reg .c)) 4 s

/-- `SBC A,D` 9A, R196. -/
def execSbcAD (s : State) : Result := aluAcc .sbc (s.readOperand (.reg .d)) 4 s

/-- `SBC A,E` 9B, R196. -/
def execSbcAE (s : State) : Result := aluAcc .sbc (s.readOperand (.reg .e)) 4 s

/-- `SBC A,H` 9C, R196. -/
def execSbcAH (s : State) : Result := aluAcc .sbc (s.readOperand (.reg .h)) 4 s

/-- `SBC A,L` 9D, R196. -/
def execSbcAL (s : State) : Result := aluAcc .sbc (s.readOperand (.reg .l)) 4 s

/-- `SBC A,A` 9F, R196. -/
def execSbcAA (s : State) : Result := aluAcc .sbc (s.readOperand (.reg .a)) 4 s

/-- `SBC A,(HL)` 9E, R196. -/
def execSbcAIndHl (s : State) : Result := aluAcc .sbc (s.readOperand .hlInd) 8 s

/-- `SBC A,n` DE, R196. -/
def execSbcAN (n : Byte) (s : State) : Result := aluAcc .sbc n 8 s

/-- `AND A,B` A0, R197. -/
def execAndAB (s : State) : Result := aluAcc .and (s.readOperand (.reg .b)) 4 s

/-- `AND A,C` A1, R197. -/
def execAndAC (s : State) : Result := aluAcc .and (s.readOperand (.reg .c)) 4 s

/-- `AND A,D` A2, R197. -/
def execAndAD (s : State) : Result := aluAcc .and (s.readOperand (.reg .d)) 4 s

/-- `AND A,E` A3, R197. -/
def execAndAE (s : State) : Result := aluAcc .and (s.readOperand (.reg .e)) 4 s

/-- `AND A,H` A4, R197. -/
def execAndAH (s : State) : Result := aluAcc .and (s.readOperand (.reg .h)) 4 s

/-- `AND A,L` A5, R197. -/
def execAndAL (s : State) : Result := aluAcc .and (s.readOperand (.reg .l)) 4 s

/-- `AND A,A` A7, R197. -/
def execAndAA (s : State) : Result := aluAcc .and (s.readOperand (.reg .a)) 4 s

/-- `AND A,(HL)` A6, R197. -/
def execAndAIndHl (s : State) : Result := aluAcc .and (s.readOperand .hlInd) 8 s

/-- `AND A,n` E6, R197. -/
def execAndAN (n : Byte) (s : State) : Result := aluAcc .and n 8 s

/-- `XOR A,B` A8, R198. -/
def execXorAB (s : State) : Result := aluAcc .xor (s.readOperand (.reg .b)) 4 s

/-- `XOR A,C` A9, R198. -/
def execXorAC (s : State) : Result := aluAcc .xor (s.readOperand (.reg .c)) 4 s

/-- `XOR A,D` AA, R198. -/
def execXorAD (s : State) : Result := aluAcc .xor (s.readOperand (.reg .d)) 4 s

/-- `XOR A,E` AB, R198. -/
def execXorAE (s : State) : Result := aluAcc .xor (s.readOperand (.reg .e)) 4 s

/-- `XOR A,H` AC, R198. -/
def execXorAH (s : State) : Result := aluAcc .xor (s.readOperand (.reg .h)) 4 s

/-- `XOR A,L` AD, R198. -/
def execXorAL (s : State) : Result := aluAcc .xor (s.readOperand (.reg .l)) 4 s

/-- `XOR A,A` AF, R198. -/
def execXorAA (s : State) : Result := aluAcc .xor (s.readOperand (.reg .a)) 4 s

/-- `XOR A,(HL)` AE, R198. -/
def execXorAIndHl (s : State) : Result := aluAcc .xor (s.readOperand .hlInd) 8 s

/-- `XOR A,n` EE, R198. -/
def execXorAN (n : Byte) (s : State) : Result := aluAcc .xor n 8 s

/-- `OR A,B` B0, R199. -/
def execOrAB (s : State) : Result := aluAcc .or (s.readOperand (.reg .b)) 4 s

/-- `OR A,C` B1, R199. -/
def execOrAC (s : State) : Result := aluAcc .or (s.readOperand (.reg .c)) 4 s

/-- `OR A,D` B2, R199. -/
def execOrAD (s : State) : Result := aluAcc .or (s.readOperand (.reg .d)) 4 s

/-- `OR A,E` B3, R199. -/
def execOrAE (s : State) : Result := aluAcc .or (s.readOperand (.reg .e)) 4 s

/-- `OR A,H` B4, R199. -/
def execOrAH (s : State) : Result := aluAcc .or (s.readOperand (.reg .h)) 4 s

/-- `OR A,L` B5, R199. -/
def execOrAL (s : State) : Result := aluAcc .or (s.readOperand (.reg .l)) 4 s

/-- `OR A,A` B7, R199. -/
def execOrAA (s : State) : Result := aluAcc .or (s.readOperand (.reg .a)) 4 s

/-- `OR A,(HL)` B6, R199. -/
def execOrAIndHl (s : State) : Result := aluAcc .or (s.readOperand .hlInd) 8 s

/-- `OR A,n` F6, R199. -/
def execOrAN (n : Byte) (s : State) : Result := aluAcc .or n 8 s

/-- `CP A,B` B8, R200. -/
def execCpAB (s : State) : Result := aluAcc .cp (s.readOperand (.reg .b)) 4 s

/-- `CP A,C` B9, R200. -/
def execCpAC (s : State) : Result := aluAcc .cp (s.readOperand (.reg .c)) 4 s

/-- `CP A,D` BA, R200. -/
def execCpAD (s : State) : Result := aluAcc .cp (s.readOperand (.reg .d)) 4 s

/-- `CP A,E` BB, R200. -/
def execCpAE (s : State) : Result := aluAcc .cp (s.readOperand (.reg .e)) 4 s

/-- `CP A,H` BC, R200. -/
def execCpAH (s : State) : Result := aluAcc .cp (s.readOperand (.reg .h)) 4 s

/-- `CP A,L` BD, R200. -/
def execCpAL (s : State) : Result := aluAcc .cp (s.readOperand (.reg .l)) 4 s

/-- `CP A,A` BF, R200. -/
def execCpAA (s : State) : Result := aluAcc .cp (s.readOperand (.reg .a)) 4 s

/-- `CP A,(HL)` BE, R200. -/
def execCpAIndHl (s : State) : Result := aluAcc .cp (s.readOperand .hlInd) 8 s

/-- `CP A,n` FE, R200. -/
def execCpAN (n : Byte) (s : State) : Result := aluAcc .cp n 8 s

/-- `INC B` 04, R201. -/
def execIncB (s : State) : Result := incOperand (.reg .b) s

/-- `INC C` 0C, R201. -/
def execIncC (s : State) : Result := incOperand (.reg .c) s

/-- `INC D` 14, R201. -/
def execIncD (s : State) : Result := incOperand (.reg .d) s

/-- `INC E` 1C, R201. -/
def execIncE (s : State) : Result := incOperand (.reg .e) s

/-- `INC H` 24, R201. -/
def execIncH (s : State) : Result := incOperand (.reg .h) s

/-- `INC L` 2C, R201. -/
def execIncL (s : State) : Result := incOperand (.reg .l) s

/-- `INC A` 3C, R201. -/
def execIncA (s : State) : Result := incOperand (.reg .a) s

/-- `INC (HL)` 34, R202. -/
def execIncIndHl (s : State) : Result := incOperand .hlInd s

/-- `DEC B` 05, R203. -/
def execDecB (s : State) : Result := decOperand (.reg .b) s

/-- `DEC C` 0D, R203. -/
def execDecC (s : State) : Result := decOperand (.reg .c) s

/-- `DEC D` 15, R203. -/
def execDecD (s : State) : Result := decOperand (.reg .d) s

/-- `DEC E` 1D, R203. -/
def execDecE (s : State) : Result := decOperand (.reg .e) s

/-- `DEC H` 25, R203. -/
def execDecH (s : State) : Result := decOperand (.reg .h) s

/-- `DEC L` 2D, R203. -/
def execDecL (s : State) : Result := decOperand (.reg .l) s

/-- `DEC A` 3D, R203. -/
def execDecA (s : State) : Result := decOperand (.reg .a) s

/-- `DEC (HL)` 35, R204. -/
def execDecIndHl (s : State) : Result := decOperand .hlInd s

/-- `DAA` 27, R205. -/
def execDaa (s : State) : Result := adjustAcc (daaEval s.getA s.flags) s

/-- `CPL` 2F, R206. -/
def execCpl (s : State) : Result := adjustAcc (cplEval s.getA s.flags) s

/-- `SCF` 37, R207. -/
def execScf (s : State) : Result := .next ((s.setFlags (scfFlags s.flags)).charge 4)

/-- `CCF` 3F, R208. -/
def execCcf (s : State) : Result := .next ((s.setFlags (ccfFlags s.flags)).charge 4)

end Sys2Proof.Machine
end

