-- ==== Sys2Proof/Machine/Control.lean ====
section
/-! DEFINITION. Jumps, calls, returns and restarts (45_control.md). `PC` is already past the whole instruction (10_state.md R25),
so it is the return address of a call and the base of a relative jump. -/
namespace Sys2Proof.Machine

/-- Set `PC` and charge the cost. -/
def jumpTo (target : Word) (cost : Nat) (s : State) : Result := .next ({ s with pc := target }.charge cost)

/-- A conditional jump: `base` cycles when not taken, `taken` when taken (R270, R272, R275). -/
def jumpIf (cc : Cond) (target : Word) (base taken : Nat) (s : State) : Result :=
  if s.cond cc then jumpTo target taken s else .next (s.charge base)

/-- Push `PC` and go to `target` (R276, R281). -/
def callTo (target : Word) (cost : Nat) (s : State) : Result := .next ({ s.push16 s.pc with pc := target }.charge cost)

/-- A conditional call: 12 cycles and nothing pushed when not taken, 24 when taken (R277). -/
def callIf (cc : Cond) (target : Word) (s : State) : Result :=
  if s.cond cc then callTo target 24 s else .next (s.charge 12)

/-- Pop `PC` (R278). -/
def returnCharged (cost : Nat) (s : State) : Result :=
  let r := s.pop16
  .next ({ r.2 with pc := r.1 }.charge cost)

/-- A conditional return: 8 cycles and the stack not read when not taken, 20 when taken (R279). -/
def returnIf (cc : Cond) (s : State) : Result :=
  if s.cond cc then returnCharged 20 s else .next (s.charge 8)

/-- `JP nn` C3, R271. -/
def execJpNn (nn : Word) (s : State) : Result := jumpTo nn 16 s

/-- `JP NZ,nn` C2, R272. -/
def execJpNzNn (nn : Word) (s : State) : Result := jumpIf .nz nn 12 16 s

/-- `JP Z,nn` CA, R272. -/
def execJpZNn (nn : Word) (s : State) : Result := jumpIf .z nn 12 16 s

/-- `JP NC,nn` D2, R272. -/
def execJpNcNn (nn : Word) (s : State) : Result := jumpIf .nc nn 12 16 s

/-- `JP C,nn` DA, R272. -/
def execJpCNn (nn : Word) (s : State) : Result := jumpIf .c nn 12 16 s

/-- `JP HL` E9, R273. -/
def execJpHl (s : State) : Result := jumpTo s.hl 4 s

/-- `JR n` 18, R274. -/
def execJrN (n : Byte) (s : State) : Result := jumpTo (relTarget s.pc n) 12 s

/-- `JR NZ,n` 20, R275. -/
def execJrNzN (n : Byte) (s : State) : Result := jumpIf .nz (relTarget s.pc n) 8 12 s

/-- `JR Z,n` 28, R275. -/
def execJrZN (n : Byte) (s : State) : Result := jumpIf .z (relTarget s.pc n) 8 12 s

/-- `JR NC,n` 30, R275. -/
def execJrNcN (n : Byte) (s : State) : Result := jumpIf .nc (relTarget s.pc n) 8 12 s

/-- `JR C,n` 38, R275. -/
def execJrCN (n : Byte) (s : State) : Result := jumpIf .c (relTarget s.pc n) 8 12 s

/-- `CALL nn` CD, R276. -/
def execCallNn (nn : Word) (s : State) : Result := callTo nn 24 s

/-- `CALL NZ,nn` C4, R277. -/
def execCallNzNn (nn : Word) (s : State) : Result := callIf .nz nn s

/-- `CALL Z,nn` CC, R277. -/
def execCallZNn (nn : Word) (s : State) : Result := callIf .z nn s

/-- `CALL NC,nn` D4, R277. -/
def execCallNcNn (nn : Word) (s : State) : Result := callIf .nc nn s

/-- `CALL C,nn` DC, R277. -/
def execCallCNn (nn : Word) (s : State) : Result := callIf .c nn s

/-- `RET` C9, R278. -/
def execRet (s : State) : Result := returnCharged 16 s

/-- `RET NZ` C0, R279. -/
def execRetNz (s : State) : Result := returnIf .nz s

/-- `RET Z` C8, R279. -/
def execRetZ (s : State) : Result := returnIf .z s

/-- `RET NC` D0, R279. -/
def execRetNc (s : State) : Result := returnIf .nc s

/-- `RET C` D8, R279. -/
def execRetC (s : State) : Result := returnIf .c s

/-- `RETI` D9, R280. -/
def execReti (s : State) : Result := .next (s.returnFromInterrupt.charge 16)

/-- `RST 0x00` C7, R281. -/
def execRst00 (s : State) : Result := callTo (rstTarget 0) 16 s

/-- `RST 0x08` CF, R281. -/
def execRst08 (s : State) : Result := callTo (rstTarget 1) 16 s

/-- `RST 0x10` D7, R281. -/
def execRst10 (s : State) : Result := callTo (rstTarget 2) 16 s

/-- `RST 0x18` DF, R281. -/
def execRst18 (s : State) : Result := callTo (rstTarget 3) 16 s

/-- `RST 0x20` E7, R281. -/
def execRst20 (s : State) : Result := callTo (rstTarget 4) 16 s

/-- `RST 0x28` EF, R281. -/
def execRst28 (s : State) : Result := callTo (rstTarget 5) 16 s

/-- `RST 0x30` F7, R281. -/
def execRst30 (s : State) : Result := callTo (rstTarget 6) 16 s

/-- `RST 0x38` FF, R281. -/
def execRst38 (s : State) : Result := callTo (rstTarget 7) 16 s

end Sys2Proof.Machine
end

