-- ==== Sys2Proof/Machine/Load8.lean ====
section
/-! DEFINITION. The 8-bit loads (40_load8.md). A meaning is given the state in which `PC` is already the address after the whole
instruction (10_state.md R25, log 15) and the immediate that was fetched. No load writes a flag. -/
namespace Sys2Proof.Machine

/-- Write a byte register and charge the cost. -/
def loadReg (dst : Reg8) (v : Byte) (cost : Nat) (s : State) : Result := .next ((s.setR8 dst v).charge cost)

/-- Store a byte and charge the cost. -/
def storeByte (a : Word) (v : Byte) (cost : Nat) (s : State) : Result := .next ((s.memWrite a v).charge cost)

/-- Load `A` from the address in `HL`, then add `d` to `HL` (R156, R158). -/
def loadStep (d : Word) (s : State) : Result :=
  let t := s.setR8 .a (s.memRead s.hl)
  .next ((t.setR16 .hl (t.hl + d)).charge 8)

/-- Store `A` at the address in `HL`, then add `d` to `HL` (R155, R157). -/
def storeStep (d : Word) (s : State) : Result :=
  let t := s.memWrite s.hl s.getA
  .next ((t.setR16 .hl (t.hl + d)).charge 8)

/-- `LD B,B` 40, R140. -/
def execLdBB (s : State) : Result := loadReg .b (s.getR8 .b) 4 s

/-- `LD B,C` 41, R140. -/
def execLdBC (s : State) : Result := loadReg .b (s.getR8 .c) 4 s

/-- `LD B,D` 42, R140. -/
def execLdBD (s : State) : Result := loadReg .b (s.getR8 .d) 4 s

/-- `LD B,E` 43, R140. -/
def execLdBE (s : State) : Result := loadReg .b (s.getR8 .e) 4 s

/-- `LD B,H` 44, R140. -/
def execLdBH (s : State) : Result := loadReg .b (s.getR8 .h) 4 s

/-- `LD B,L` 45, R140. -/
def execLdBL (s : State) : Result := loadReg .b (s.getR8 .l) 4 s

/-- `LD B,A` 47, R140. -/
def execLdBA (s : State) : Result := loadReg .b (s.getR8 .a) 4 s

/-- `LD C,B` 48, R140. -/
def execLdCB (s : State) : Result := loadReg .c (s.getR8 .b) 4 s

/-- `LD C,C` 49, R140. -/
def execLdCC (s : State) : Result := loadReg .c (s.getR8 .c) 4 s

/-- `LD C,D` 4A, R140. -/
def execLdCD (s : State) : Result := loadReg .c (s.getR8 .d) 4 s

/-- `LD C,E` 4B, R140. -/
def execLdCE (s : State) : Result := loadReg .c (s.getR8 .e) 4 s

/-- `LD C,H` 4C, R140. -/
def execLdCH (s : State) : Result := loadReg .c (s.getR8 .h) 4 s

/-- `LD C,L` 4D, R140. -/
def execLdCL (s : State) : Result := loadReg .c (s.getR8 .l) 4 s

/-- `LD C,A` 4F, R140. -/
def execLdCA (s : State) : Result := loadReg .c (s.getR8 .a) 4 s

/-- `LD D,B` 50, R140. -/
def execLdDB (s : State) : Result := loadReg .d (s.getR8 .b) 4 s

/-- `LD D,C` 51, R140. -/
def execLdDC (s : State) : Result := loadReg .d (s.getR8 .c) 4 s

/-- `LD D,D` 52, R140. -/
def execLdDD (s : State) : Result := loadReg .d (s.getR8 .d) 4 s

/-- `LD D,E` 53, R140. -/
def execLdDE (s : State) : Result := loadReg .d (s.getR8 .e) 4 s

/-- `LD D,H` 54, R140. -/
def execLdDH (s : State) : Result := loadReg .d (s.getR8 .h) 4 s

/-- `LD D,L` 55, R140. -/
def execLdDL (s : State) : Result := loadReg .d (s.getR8 .l) 4 s

/-- `LD D,A` 57, R140. -/
def execLdDA (s : State) : Result := loadReg .d (s.getR8 .a) 4 s

/-- `LD E,B` 58, R140. -/
def execLdEB (s : State) : Result := loadReg .e (s.getR8 .b) 4 s

/-- `LD E,C` 59, R140. -/
def execLdEC (s : State) : Result := loadReg .e (s.getR8 .c) 4 s

/-- `LD E,D` 5A, R140. -/
def execLdED (s : State) : Result := loadReg .e (s.getR8 .d) 4 s

/-- `LD E,E` 5B, R140. -/
def execLdEE (s : State) : Result := loadReg .e (s.getR8 .e) 4 s

/-- `LD E,H` 5C, R140. -/
def execLdEH (s : State) : Result := loadReg .e (s.getR8 .h) 4 s

/-- `LD E,L` 5D, R140. -/
def execLdEL (s : State) : Result := loadReg .e (s.getR8 .l) 4 s

/-- `LD E,A` 5F, R140. -/
def execLdEA (s : State) : Result := loadReg .e (s.getR8 .a) 4 s

/-- `LD H,B` 60, R140. -/
def execLdHB (s : State) : Result := loadReg .h (s.getR8 .b) 4 s

/-- `LD H,C` 61, R140. -/
def execLdHC (s : State) : Result := loadReg .h (s.getR8 .c) 4 s

/-- `LD H,D` 62, R140. -/
def execLdHD (s : State) : Result := loadReg .h (s.getR8 .d) 4 s

/-- `LD H,E` 63, R140. -/
def execLdHE (s : State) : Result := loadReg .h (s.getR8 .e) 4 s

/-- `LD H,H` 64, R140. -/
def execLdHH (s : State) : Result := loadReg .h (s.getR8 .h) 4 s

/-- `LD H,L` 65, R140. -/
def execLdHL (s : State) : Result := loadReg .h (s.getR8 .l) 4 s

/-- `LD H,A` 67, R140. -/
def execLdHA (s : State) : Result := loadReg .h (s.getR8 .a) 4 s

/-- `LD L,B` 68, R140. -/
def execLdLB (s : State) : Result := loadReg .l (s.getR8 .b) 4 s

/-- `LD L,C` 69, R140. -/
def execLdLC (s : State) : Result := loadReg .l (s.getR8 .c) 4 s

/-- `LD L,D` 6A, R140. -/
def execLdLD (s : State) : Result := loadReg .l (s.getR8 .d) 4 s

/-- `LD L,E` 6B, R140. -/
def execLdLE (s : State) : Result := loadReg .l (s.getR8 .e) 4 s

/-- `LD L,H` 6C, R140. -/
def execLdLH (s : State) : Result := loadReg .l (s.getR8 .h) 4 s

/-- `LD L,L` 6D, R140. -/
def execLdLL (s : State) : Result := loadReg .l (s.getR8 .l) 4 s

/-- `LD L,A` 6F, R140. -/
def execLdLA (s : State) : Result := loadReg .l (s.getR8 .a) 4 s

/-- `LD A,B` 78, R140. -/
def execLdAB (s : State) : Result := loadReg .a (s.getR8 .b) 4 s

/-- `LD A,C` 79, R140. -/
def execLdAC (s : State) : Result := loadReg .a (s.getR8 .c) 4 s

/-- `LD A,D` 7A, R140. -/
def execLdAD (s : State) : Result := loadReg .a (s.getR8 .d) 4 s

/-- `LD A,E` 7B, R140. -/
def execLdAE (s : State) : Result := loadReg .a (s.getR8 .e) 4 s

/-- `LD A,H` 7C, R140. -/
def execLdAH (s : State) : Result := loadReg .a (s.getR8 .h) 4 s

/-- `LD A,L` 7D, R140. -/
def execLdAL (s : State) : Result := loadReg .a (s.getR8 .l) 4 s

/-- `LD A,A` 7F, R140. -/
def execLdAA (s : State) : Result := loadReg .a (s.getR8 .a) 4 s

/-- `LD B,n` 06, R141. -/
def execLdBN (n : Byte) (s : State) : Result := loadReg .b n 8 s

/-- `LD C,n` 0E, R141. -/
def execLdCN (n : Byte) (s : State) : Result := loadReg .c n 8 s

/-- `LD D,n` 16, R141. -/
def execLdDN (n : Byte) (s : State) : Result := loadReg .d n 8 s

/-- `LD E,n` 1E, R141. -/
def execLdEN (n : Byte) (s : State) : Result := loadReg .e n 8 s

/-- `LD H,n` 26, R141. -/
def execLdHN (n : Byte) (s : State) : Result := loadReg .h n 8 s

/-- `LD L,n` 2E, R141. -/
def execLdLN (n : Byte) (s : State) : Result := loadReg .l n 8 s

/-- `LD A,n` 3E, R141. -/
def execLdAN (n : Byte) (s : State) : Result := loadReg .a n 8 s

/-- `LD B,(HL)` 46, R142. -/
def execLdBIndHl (s : State) : Result := loadReg .b (s.memRead s.hl) 8 s

/-- `LD C,(HL)` 4E, R142. -/
def execLdCIndHl (s : State) : Result := loadReg .c (s.memRead s.hl) 8 s

/-- `LD D,(HL)` 56, R142. -/
def execLdDIndHl (s : State) : Result := loadReg .d (s.memRead s.hl) 8 s

/-- `LD E,(HL)` 5E, R142. -/
def execLdEIndHl (s : State) : Result := loadReg .e (s.memRead s.hl) 8 s

/-- `LD H,(HL)` 66, R142. -/
def execLdHIndHl (s : State) : Result := loadReg .h (s.memRead s.hl) 8 s

/-- `LD L,(HL)` 6E, R142. -/
def execLdLIndHl (s : State) : Result := loadReg .l (s.memRead s.hl) 8 s

/-- `LD A,(HL)` 7E, R142. -/
def execLdAIndHl (s : State) : Result := loadReg .a (s.memRead s.hl) 8 s

/-- `LD (HL),B` 70, R143. -/
def execLdIndHlB (s : State) : Result := storeByte s.hl (s.getR8 .b) 8 s

/-- `LD (HL),C` 71, R143. -/
def execLdIndHlC (s : State) : Result := storeByte s.hl (s.getR8 .c) 8 s

/-- `LD (HL),D` 72, R143. -/
def execLdIndHlD (s : State) : Result := storeByte s.hl (s.getR8 .d) 8 s

/-- `LD (HL),E` 73, R143. -/
def execLdIndHlE (s : State) : Result := storeByte s.hl (s.getR8 .e) 8 s

/-- `LD (HL),H` 74, R143. -/
def execLdIndHlH (s : State) : Result := storeByte s.hl (s.getR8 .h) 8 s

/-- `LD (HL),L` 75, R143. -/
def execLdIndHlL (s : State) : Result := storeByte s.hl (s.getR8 .l) 8 s

/-- `LD (HL),A` 77, R143. -/
def execLdIndHlA (s : State) : Result := storeByte s.hl (s.getR8 .a) 8 s

/-- `LD (HL),n` 36, R144. -/
def execLdIndHlN (n : Byte) (s : State) : Result := storeByte s.hl n 12 s

/-- `LD A,(BC)` 0A, R145. -/
def execLdAIndBc (s : State) : Result := loadReg .a (s.memRead s.bc) 8 s

/-- `LD A,(DE)` 1A, R146. -/
def execLdAIndDe (s : State) : Result := loadReg .a (s.memRead s.de) 8 s

/-- `LD (BC),A` 02, R147. -/
def execLdIndBcA (s : State) : Result := storeByte s.bc s.getA 8 s

/-- `LD (DE),A` 12, R148. -/
def execLdIndDeA (s : State) : Result := storeByte s.de s.getA 8 s

/-- `LD A,(nn)` FA, R149. -/
def execLdAIndNn (nn : Word) (s : State) : Result := loadReg .a (s.memRead nn) 16 s

/-- `LD (nn),A` EA, R150. -/
def execLdIndNnA (nn : Word) (s : State) : Result := storeByte nn s.getA 16 s

/-- `LDH A,(n)` F0, R151. -/
def execLdhAIndN (n : Byte) (s : State) : Result := loadReg .a (s.memRead (highPage n)) 12 s

/-- `LDH (n),A` E0, R152. -/
def execLdhIndNA (n : Byte) (s : State) : Result := storeByte (highPage n) s.getA 12 s

/-- `LD A,(C)` F2, R153. -/
def execLdAIndC (s : State) : Result := loadReg .a (s.memRead (highPage (s.getR8 .c))) 8 s

/-- `LD (C),A` E2, R154. -/
def execLdIndCA (s : State) : Result := storeByte (highPage (s.getR8 .c)) s.getA 8 s

/-- `LD (HL+),A` 22, R155. -/
def execLdIndHlIncA (s : State) : Result := storeStep 1 s

/-- `LD A,(HL+)` 2A, R156. -/
def execLdAIndHlInc (s : State) : Result := loadStep 1 s

/-- `LD (HL-),A` 32, R157. -/
def execLdIndHlDecA (s : State) : Result := storeStep (-1) s

/-- `LD A,(HL-)` 3A, R158. -/
def execLdAIndHlDec (s : State) : Result := loadStep (-1) s

end Sys2Proof.Machine
end

