-- ==== Sys2Proof/Machine/Misc.lean ====
section
/-! DEFINITION. The system and miscellaneous instructions and the removed opcodes (46_misc.md). The prefix entry is in
Machine/Rotate.lean. -/
namespace Sys2Proof.Machine


/-- `NOP` 00, R290. -/
def execNop (s : State) : Result := .next (s.charge 4)

/-- `HALT` 76, R291. -/
def execHalt (s : State) : Result := .next ({ s with mode := .halted }.charge 4)

/-- `STOP` 10, R292. The byte that follows is fetched and ignored. -/
def execStop (_n : Byte) (s : State) : Result := .next ({ s with mode := .stopped }.charge 4)

/-- `DI` F3, R293. -/
def execDi (s : State) : Result := .next ({ s with ime := false }.charge 4)

/-- `EI` FB, R294. -/
def execEi (s : State) : Result := .next ({ s with ime := true }.charge 4)

/-- `ILLEGAL` D3, R296. "a fatal condition": `PC` is one past the opcode byte, nothing else has changed. -/
def execIllegal (opcode : Byte) (s : State) : Result := s.raiseFatal (.removedOpcode opcode)

end Sys2Proof.Machine
end

