-- ==== Sys2Proof/WellFormed.lean ====
section
/-! DEFINITION. Which terms of `Instr` are an instruction of the machine. Every operand field is as wide as its encoding
(`Byte`, `Word`), so an immediate is always well formed; two constructors carry a check. -/
namespace Sys2Proof

/-- The eleven removed primary opcodes (30_encoding.md R121, 46_misc.md R296). -/
def removedOpcodes : List Byte :=
  [0xD3, 0xDB, 0xDD, 0xE3, 0xE4, 0xEB, 0xEC, 0xED, 0xF4, 0xFC, 0xFD]

/-- An instruction is well formed when
* `illegal`: its byte is one of the eleven removed opcodes (R121);
* `prefixCb`: never. "It is not an instruction of its own" (R295): what follows the prefix byte is an entry of the extended
  table, and that entry is the instruction (R120, log 7). The constructor stands for the table's row and has a meaning.
Every other term is well formed: "Unused bits do not exist" (R122). -/
def Instr.wellFormed : Instr → Bool
  | .illegal opcode => removedOpcodes.contains opcode
  | .prefixCb _ => false
  | _ => true

end Sys2Proof
end

