-- ==== Sys2Proof/Decode.lean ====
section
/-! DEFINITION. From bytes to an instruction and back (30_encoding.md). The decoder works by the fields of an opcode byte (R112)
and the operand tables (R113 to R116), as the maps in prose R127 and R128 do; the encoder is written row by row from
spec/opcode_table.json. Decoding is total: every byte of both tables resolves (R122), and the only rejection is a byte list
that is shorter than its instruction. -/
namespace Sys2Proof

/-- `x`, bits 7:6 of an opcode byte (R112). -/
def fieldX (b : Byte) : Fin 4 := Fin.ofNat 4 (b.toNat / 64)

/-- `y`, bits 5:3 (R112). -/
def fieldY (b : Byte) : Fin 8 := Fin.ofNat 8 (b.toNat / 8)

/-- `z`, bits 2:0 (R112). -/
def fieldZ (b : Byte) : Fin 8 := Fin.ofNat 8 b.toNat

/-- `p`, bits 5:4 (R112). -/
def fieldP (b : Byte) : Fin 4 := Fin.ofNat 4 (b.toNat / 16)

/-- `q`, bit 3 (R112). -/
def fieldQ (b : Byte) : Bool := Machine.bitAt b 3

/-- `r8[i]` (R113). -/
def r8Of (i : Fin 8) : Operand8 :=
  match i with
  | 0 => .reg .b
  | 1 => .reg .c
  | 2 => .reg .d
  | 3 => .reg .e
  | 4 => .reg .h
  | 5 => .reg .l
  | 6 => .hlInd
  | 7 => .reg .a

/-- `r16[p]` (R114). -/
def r16Of (p : Fin 4) : Reg16 :=
  match p with
  | 0 => .bc
  | 1 => .de
  | 2 => .hl
  | 3 => .sp

/-- `r16stk[p]` (R114). -/
def stk16Of (p : Fin 4) : Stk16 :=
  match p with
  | 0 => .bc
  | 1 => .de
  | 2 => .hl
  | 3 => .af

/-- The condition of a row `y`: `cc[y]` for `RET`, `JP`, `CALL` (y in 0..3), `cc[y - 4]` for `JR` (y in 4..7) (R115). -/
def condOf (y : Fin 8) : Cond :=
  match y with
  | 0 | 4 => .nz
  | 1 | 5 => .z
  | 2 | 6 => .nc
  | 3 | 7 => .c

/-- `alu[y]` (R116). -/
def aluOf (y : Fin 8) : AluOp :=
  match y with
  | 0 => .add
  | 1 => .adc
  | 2 => .sub
  | 3 => .sbc
  | 4 => .and
  | 5 => .xor
  | 6 => .or
  | 7 => .cp

/-- `rot[y]` (R116). -/
def rotOf (y : Fin 8) : RotOp :=
  match y with
  | 0 => .rlc
  | 1 => .rrc
  | 2 => .rl
  | 3 => .rr
  | 4 => .sla
  | 5 => .sra
  | 6 => .swap
  | 7 => .srl

/-- `LD r,r'`: `0x40 + 8*y + z` (R127, R140). -/
def Form.ldRegReg (dst src : Reg8) : Instr :=
  match dst, src with
  | .b, .b => .ldBB
  | .b, .c => .ldBC
  | .b, .d => .ldBD
  | .b, .e => .ldBE
  | .b, .h => .ldBH
  | .b, .l => .ldBL
  | .b, .a => .ldBA
  | .c, .b => .ldCB
  | .c, .c => .ldCC
  | .c, .d => .ldCD
  | .c, .e => .ldCE
  | .c, .h => .ldCH
  | .c, .l => .ldCL
  | .c, .a => .ldCA
  | .d, .b => .ldDB
  | .d, .c => .ldDC
  | .d, .d => .ldDD
  | .d, .e => .ldDE
  | .d, .h => .ldDH
  | .d, .l => .ldDL
  | .d, .a => .ldDA
  | .e, .b => .ldEB
  | .e, .c => .ldEC
  | .e, .d => .ldED
  | .e, .e => .ldEE
  | .e, .h => .ldEH
  | .e, .l => .ldEL
  | .e, .a => .ldEA
  | .h, .b => .ldHB
  | .h, .c => .ldHC
  | .h, .d => .ldHD
  | .h, .e => .ldHE
  | .h, .h => .ldHH
  | .h, .l => .ldHL
  | .h, .a => .ldHA
  | .l, .b => .ldLB
  | .l, .c => .ldLC
  | .l, .d => .ldLD
  | .l, .e => .ldLE
  | .l, .h => .ldLH
  | .l, .l => .ldLL
  | .l, .a => .ldLA
  | .a, .b => .ldAB
  | .a, .c => .ldAC
  | .a, .d => .ldAD
  | .a, .e => .ldAE
  | .a, .h => .ldAH
  | .a, .l => .ldAL
  | .a, .a => .ldAA

/-- `LD r,n` (R127, R141). -/
def Form.ldRegImm (dst : Reg8) (n : Byte) : Instr :=
  match dst with
  | .b => .ldBN n
  | .c => .ldCN n
  | .d => .ldDN n
  | .e => .ldEN n
  | .h => .ldHN n
  | .l => .ldLN n
  | .a => .ldAN n

/-- `LD r,(HL)` (R127, R142). -/
def Form.ldRegInd (dst : Reg8) : Instr :=
  match dst with
  | .b => .ldBIndHl
  | .c => .ldCIndHl
  | .d => .ldDIndHl
  | .e => .ldEIndHl
  | .h => .ldHIndHl
  | .l => .ldLIndHl
  | .a => .ldAIndHl

/-- `LD (HL),r` (R127, R143). -/
def Form.ldIndReg (src : Reg8) : Instr :=
  match src with
  | .b => .ldIndHlB
  | .c => .ldIndHlC
  | .d => .ldIndHlD
  | .e => .ldIndHlE
  | .h => .ldIndHlH
  | .l => .ldIndHlL
  | .a => .ldIndHlA

/-- `LD rr,nn` (R127, R171). -/
def Form.ldPairImm (p : Reg16) (nn : Word) : Instr :=
  match p with
  | .bc => .ldBcNn nn
  | .de => .ldDeNn nn
  | .hl => .ldHlNn nn
  | .sp => .ldSpNn nn

/-- `PUSH rr` (R127, R175). -/
def Form.push (q : Stk16) : Instr :=
  match q with
  | .bc => .pushBc
  | .de => .pushDe
  | .hl => .pushHl
  | .af => .pushAf

/-- `POP rr` (R127, R176). -/
def Form.pop (q : Stk16) : Instr :=
  match q with
  | .bc => .popBc
  | .de => .popDe
  | .hl => .popHl
  | .af => .popAf

/-- `ADD HL,rr` (R127, R230). -/
def Form.addHlPair (p : Reg16) : Instr :=
  match p with
  | .bc => .addHlBc
  | .de => .addHlDe
  | .hl => .addHlHl
  | .sp => .addHlSp

/-- `INC rr` (R127, R231). -/
def Form.incPair (p : Reg16) : Instr :=
  match p with
  | .bc => .incBc
  | .de => .incDe
  | .hl => .incHl
  | .sp => .incSp

/-- `DEC rr` (R127, R232). -/
def Form.decPair (p : Reg16) : Instr :=
  match p with
  | .bc => .decBc
  | .de => .decDe
  | .hl => .decHl
  | .sp => .decSp

/-- `INC r8[y]` (R127, R201, R202). -/
def Form.inc (o : Operand8) : Instr :=
  match o with
  | .reg .b => .incB
  | .reg .c => .incC
  | .reg .d => .incD
  | .reg .e => .incE
  | .reg .h => .incH
  | .reg .l => .incL
  | .reg .a => .incA
  | .hlInd => .incIndHl

/-- `DEC r8[y]` (R127, R203, R204). -/
def Form.dec (o : Operand8) : Instr :=
  match o with
  | .reg .b => .decB
  | .reg .c => .decC
  | .reg .d => .decD
  | .reg .e => .decE
  | .reg .h => .decH
  | .reg .l => .decL
  | .reg .a => .decA
  | .hlInd => .decIndHl

/-- `alu[y] A,r8[z]`: `0x80 + 8*y + z` (R127, R192). -/
def Form.alu (op : AluOp) (o : Operand8) : Instr :=
  match op, o with
  | .add, .reg .b => .addAB
  | .add, .reg .c => .addAC
  | .add, .reg .d => .addAD
  | .add, .reg .e => .addAE
  | .add, .reg .h => .addAH
  | .add, .reg .l => .addAL
  | .add, .reg .a => .addAA
  | .adc, .reg .b => .adcAB
  | .adc, .reg .c => .adcAC
  | .adc, .reg .d => .adcAD
  | .adc, .reg .e => .adcAE
  | .adc, .reg .h => .adcAH
  | .adc, .reg .l => .adcAL
  | .adc, .reg .a => .adcAA
  | .sub, .reg .b => .subAB
  | .sub, .reg .c => .subAC
  | .sub, .reg .d => .subAD
  | .sub, .reg .e => .subAE
  | .sub, .reg .h => .subAH
  | .sub, .reg .l => .subAL
  | .sub, .reg .a => .subAA
  | .sbc, .reg .b => .sbcAB
  | .sbc, .reg .c => .sbcAC
  | .sbc, .reg .d => .sbcAD
  | .sbc, .reg .e => .sbcAE
  | .sbc, .reg .h => .sbcAH
  | .sbc, .reg .l => .sbcAL
  | .sbc, .reg .a => .sbcAA
  | .and, .reg .b => .andAB
  | .and, .reg .c => .andAC
  | .and, .reg .d => .andAD
  | .and, .reg .e => .andAE
  | .and, .reg .h => .andAH
  | .and, .reg .l => .andAL
  | .and, .reg .a => .andAA
  | .xor, .reg .b => .xorAB
  | .xor, .reg .c => .xorAC
  | .xor, .reg .d => .xorAD
  | .xor, .reg .e => .xorAE
  | .xor, .reg .h => .xorAH
  | .xor, .reg .l => .xorAL
  | .xor, .reg .a => .xorAA
  | .or, .reg .b => .orAB
  | .or, .reg .c => .orAC
  | .or, .reg .d => .orAD
  | .or, .reg .e => .orAE
  | .or, .reg .h => .orAH
  | .or, .reg .l => .orAL
  | .or, .reg .a => .orAA
  | .cp, .reg .b => .cpAB
  | .cp, .reg .c => .cpAC
  | .cp, .reg .d => .cpAD
  | .cp, .reg .e => .cpAE
  | .cp, .reg .h => .cpAH
  | .cp, .reg .l => .cpAL
  | .cp, .reg .a => .cpAA
  | .add, .hlInd => .addAIndHl
  | .adc, .hlInd => .adcAIndHl
  | .sub, .hlInd => .subAIndHl
  | .sbc, .hlInd => .sbcAIndHl
  | .and, .hlInd => .andAIndHl
  | .xor, .hlInd => .xorAIndHl
  | .or, .hlInd => .orAIndHl
  | .cp, .hlInd => .cpAIndHl

/-- `alu[y] A,n` (R127, R192). -/
def Form.aluImm (op : AluOp) (n : Byte) : Instr :=
  match op with
  | .add => .addAN n
  | .adc => .adcAN n
  | .sub => .subAN n
  | .sbc => .sbcAN n
  | .and => .andAN n
  | .xor => .xorAN n
  | .or => .orAN n
  | .cp => .cpAN n

/-- `rot[y] r8[z]`: extended `8*y + z` (R128, R245 to R252). -/
def Form.rot (op : RotOp) (o : Operand8) : Instr :=
  match op, o with
  | .rlc, .reg .b => .rlcB
  | .rlc, .reg .c => .rlcC
  | .rlc, .reg .d => .rlcD
  | .rlc, .reg .e => .rlcE
  | .rlc, .reg .h => .rlcH
  | .rlc, .reg .l => .rlcL
  | .rlc, .reg .a => .rlcA
  | .rrc, .reg .b => .rrcB
  | .rrc, .reg .c => .rrcC
  | .rrc, .reg .d => .rrcD
  | .rrc, .reg .e => .rrcE
  | .rrc, .reg .h => .rrcH
  | .rrc, .reg .l => .rrcL
  | .rrc, .reg .a => .rrcA
  | .rl, .reg .b => .rlB
  | .rl, .reg .c => .rlC
  | .rl, .reg .d => .rlD
  | .rl, .reg .e => .rlE
  | .rl, .reg .h => .rlH
  | .rl, .reg .l => .rlL
  | .rl, .reg .a => .rlA
  | .rr, .reg .b => .rrB
  | .rr, .reg .c => .rrC
  | .rr, .reg .d => .rrD
  | .rr, .reg .e => .rrE
  | .rr, .reg .h => .rrH
  | .rr, .reg .l => .rrL
  | .rr, .reg .a => .rrA
  | .sla, .reg .b => .slaB
  | .sla, .reg .c => .slaC
  | .sla, .reg .d => .slaD
  | .sla, .reg .e => .slaE
  | .sla, .reg .h => .slaH
  | .sla, .reg .l => .slaL
  | .sla, .reg .a => .slaA
  | .sra, .reg .b => .sraB
  | .sra, .reg .c => .sraC
  | .sra, .reg .d => .sraD
  | .sra, .reg .e => .sraE
  | .sra, .reg .h => .sraH
  | .sra, .reg .l => .sraL
  | .sra, .reg .a => .sraA
  | .swap, .reg .b => .swapB
  | .swap, .reg .c => .swapC
  | .swap, .reg .d => .swapD
  | .swap, .reg .e => .swapE
  | .swap, .reg .h => .swapH
  | .swap, .reg .l => .swapL
  | .swap, .reg .a => .swapA
  | .srl, .reg .b => .srlB
  | .srl, .reg .c => .srlC
  | .srl, .reg .d => .srlD
  | .srl, .reg .e => .srlE
  | .srl, .reg .h => .srlH
  | .srl, .reg .l => .srlL
  | .srl, .reg .a => .srlA
  | .rlc, .hlInd => .rlcIndHl
  | .rrc, .hlInd => .rrcIndHl
  | .rl, .hlInd => .rlIndHl
  | .rr, .hlInd => .rrIndHl
  | .sla, .hlInd => .slaIndHl
  | .sra, .hlInd => .sraIndHl
  | .swap, .hlInd => .swapIndHl
  | .srl, .hlInd => .srlIndHl

/-- `BIT y,r8[z]`: extended `0x40 + 8*y + z` (R128, R253). -/
def Form.bit (b : Fin 8) (o : Operand8) : Instr :=
  match b, o with
  | 0, .reg .b => .bit0B
  | 0, .reg .c => .bit0C
  | 0, .reg .d => .bit0D
  | 0, .reg .e => .bit0E
  | 0, .reg .h => .bit0H
  | 0, .reg .l => .bit0L
  | 0, .reg .a => .bit0A
  | 1, .reg .b => .bit1B
  | 1, .reg .c => .bit1C
  | 1, .reg .d => .bit1D
  | 1, .reg .e => .bit1E
  | 1, .reg .h => .bit1H
  | 1, .reg .l => .bit1L
  | 1, .reg .a => .bit1A
  | 2, .reg .b => .bit2B
  | 2, .reg .c => .bit2C
  | 2, .reg .d => .bit2D
  | 2, .reg .e => .bit2E
  | 2, .reg .h => .bit2H
  | 2, .reg .l => .bit2L
  | 2, .reg .a => .bit2A
  | 3, .reg .b => .bit3B
  | 3, .reg .c => .bit3C
  | 3, .reg .d => .bit3D
  | 3, .reg .e => .bit3E
  | 3, .reg .h => .bit3H
  | 3, .reg .l => .bit3L
  | 3, .reg .a => .bit3A
  | 4, .reg .b => .bit4B
  | 4, .reg .c => .bit4C
  | 4, .reg .d => .bit4D
  | 4, .reg .e => .bit4E
  | 4, .reg .h => .bit4H
  | 4, .reg .l => .bit4L
  | 4, .reg .a => .bit4A
  | 5, .reg .b => .bit5B
  | 5, .reg .c => .bit5C
  | 5, .reg .d => .bit5D
  | 5, .reg .e => .bit5E
  | 5, .reg .h => .bit5H
  | 5, .reg .l => .bit5L
  | 5, .reg .a => .bit5A
  | 6, .reg .b => .bit6B
  | 6, .reg .c => .bit6C
  | 6, .reg .d => .bit6D
  | 6, .reg .e => .bit6E
  | 6, .reg .h => .bit6H
  | 6, .reg .l => .bit6L
  | 6, .reg .a => .bit6A
  | 7, .reg .b => .bit7B
  | 7, .reg .c => .bit7C
  | 7, .reg .d => .bit7D
  | 7, .reg .e => .bit7E
  | 7, .reg .h => .bit7H
  | 7, .reg .l => .bit7L
  | 7, .reg .a => .bit7A
  | 0, .hlInd => .bit0IndHl
  | 1, .hlInd => .bit1IndHl
  | 2, .hlInd => .bit2IndHl
  | 3, .hlInd => .bit3IndHl
  | 4, .hlInd => .bit4IndHl
  | 5, .hlInd => .bit5IndHl
  | 6, .hlInd => .bit6IndHl
  | 7, .hlInd => .bit7IndHl

/-- `RES y,r8[z]`: extended `0x80 + 8*y + z` (R128, R254). -/
def Form.res (b : Fin 8) (o : Operand8) : Instr :=
  match b, o with
  | 0, .reg .b => .res0B
  | 0, .reg .c => .res0C
  | 0, .reg .d => .res0D
  | 0, .reg .e => .res0E
  | 0, .reg .h => .res0H
  | 0, .reg .l => .res0L
  | 0, .reg .a => .res0A
  | 1, .reg .b => .res1B
  | 1, .reg .c => .res1C
  | 1, .reg .d => .res1D
  | 1, .reg .e => .res1E
  | 1, .reg .h => .res1H
  | 1, .reg .l => .res1L
  | 1, .reg .a => .res1A
  | 2, .reg .b => .res2B
  | 2, .reg .c => .res2C
  | 2, .reg .d => .res2D
  | 2, .reg .e => .res2E
  | 2, .reg .h => .res2H
  | 2, .reg .l => .res2L
  | 2, .reg .a => .res2A
  | 3, .reg .b => .res3B
  | 3, .reg .c => .res3C
  | 3, .reg .d => .res3D
  | 3, .reg .e => .res3E
  | 3, .reg .h => .res3H
  | 3, .reg .l => .res3L
  | 3, .reg .a => .res3A
  | 4, .reg .b => .res4B
  | 4, .reg .c => .res4C
  | 4, .reg .d => .res4D
  | 4, .reg .e => .res4E
  | 4, .reg .h => .res4H
  | 4, .reg .l => .res4L
  | 4, .reg .a => .res4A
  | 5, .reg .b => .res5B
  | 5, .reg .c => .res5C
  | 5, .reg .d => .res5D
  | 5, .reg .e => .res5E
  | 5, .reg .h => .res5H
  | 5, .reg .l => .res5L
  | 5, .reg .a => .res5A
  | 6, .reg .b => .res6B
  | 6, .reg .c => .res6C
  | 6, .reg .d => .res6D
  | 6, .reg .e => .res6E
  | 6, .reg .h => .res6H
  | 6, .reg .l => .res6L
  | 6, .reg .a => .res6A
  | 7, .reg .b => .res7B
  | 7, .reg .c => .res7C
  | 7, .reg .d => .res7D
  | 7, .reg .e => .res7E
  | 7, .reg .h => .res7H
  | 7, .reg .l => .res7L
  | 7, .reg .a => .res7A
  | 0, .hlInd => .res0IndHl
  | 1, .hlInd => .res1IndHl
  | 2, .hlInd => .res2IndHl
  | 3, .hlInd => .res3IndHl
  | 4, .hlInd => .res4IndHl
  | 5, .hlInd => .res5IndHl
  | 6, .hlInd => .res6IndHl
  | 7, .hlInd => .res7IndHl

/-- `SET y,r8[z]`: extended `0xC0 + 8*y + z` (R128, R255). -/
def Form.set (b : Fin 8) (o : Operand8) : Instr :=
  match b, o with
  | 0, .reg .b => .set0B
  | 0, .reg .c => .set0C
  | 0, .reg .d => .set0D
  | 0, .reg .e => .set0E
  | 0, .reg .h => .set0H
  | 0, .reg .l => .set0L
  | 0, .reg .a => .set0A
  | 1, .reg .b => .set1B
  | 1, .reg .c => .set1C
  | 1, .reg .d => .set1D
  | 1, .reg .e => .set1E
  | 1, .reg .h => .set1H
  | 1, .reg .l => .set1L
  | 1, .reg .a => .set1A
  | 2, .reg .b => .set2B
  | 2, .reg .c => .set2C
  | 2, .reg .d => .set2D
  | 2, .reg .e => .set2E
  | 2, .reg .h => .set2H
  | 2, .reg .l => .set2L
  | 2, .reg .a => .set2A
  | 3, .reg .b => .set3B
  | 3, .reg .c => .set3C
  | 3, .reg .d => .set3D
  | 3, .reg .e => .set3E
  | 3, .reg .h => .set3H
  | 3, .reg .l => .set3L
  | 3, .reg .a => .set3A
  | 4, .reg .b => .set4B
  | 4, .reg .c => .set4C
  | 4, .reg .d => .set4D
  | 4, .reg .e => .set4E
  | 4, .reg .h => .set4H
  | 4, .reg .l => .set4L
  | 4, .reg .a => .set4A
  | 5, .reg .b => .set5B
  | 5, .reg .c => .set5C
  | 5, .reg .d => .set5D
  | 5, .reg .e => .set5E
  | 5, .reg .h => .set5H
  | 5, .reg .l => .set5L
  | 5, .reg .a => .set5A
  | 6, .reg .b => .set6B
  | 6, .reg .c => .set6C
  | 6, .reg .d => .set6D
  | 6, .reg .e => .set6E
  | 6, .reg .h => .set6H
  | 6, .reg .l => .set6L
  | 6, .reg .a => .set6A
  | 7, .reg .b => .set7B
  | 7, .reg .c => .set7C
  | 7, .reg .d => .set7D
  | 7, .reg .e => .set7E
  | 7, .reg .h => .set7H
  | 7, .reg .l => .set7L
  | 7, .reg .a => .set7A
  | 0, .hlInd => .set0IndHl
  | 1, .hlInd => .set1IndHl
  | 2, .hlInd => .set2IndHl
  | 3, .hlInd => .set3IndHl
  | 4, .hlInd => .set4IndHl
  | 5, .hlInd => .set5IndHl
  | 6, .hlInd => .set6IndHl
  | 7, .hlInd => .set7IndHl

/-- `JP cc,nn` (R127, R272). -/
def Form.jpCond (cc : Cond) (nn : Word) : Instr :=
  match cc with
  | .nz => .jpNzNn nn
  | .z => .jpZNn nn
  | .nc => .jpNcNn nn
  | .c => .jpCNn nn

/-- `JR cc,n` (R127, R275). -/
def Form.jrCond (cc : Cond) (n : Byte) : Instr :=
  match cc with
  | .nz => .jrNzN n
  | .z => .jrZN n
  | .nc => .jrNcN n
  | .c => .jrCN n

/-- `CALL cc,nn` (R127, R277). -/
def Form.callCond (cc : Cond) (nn : Word) : Instr :=
  match cc with
  | .nz => .callNzNn nn
  | .z => .callZNn nn
  | .nc => .callNcNn nn
  | .c => .callCNn nn

/-- `RET cc` (R127, R279). -/
def Form.retCond (cc : Cond) : Instr :=
  match cc with
  | .nz => .retNz
  | .z => .retZ
  | .nc => .retNc
  | .c => .retC

/-- `RST 8*y` (R127, R281). -/
def Form.rst (y : Fin 8) : Instr :=
  match y with
  | 0 => .rst00
  | 1 => .rst08
  | 2 => .rst10
  | 3 => .rst18
  | 4 => .rst20
  | 5 => .rst28
  | 6 => .rst30
  | 7 => .rst38

/-- `LD r8[y],n` (R127; 0x36 is `LD (HL),n`). -/
def Form.ldOperandImm (o : Operand8) (n : Byte) : Instr :=
  match o with
  | .reg r => Form.ldRegImm r n
  | .hlInd => .ldIndHlN n

/-- Quadrant `x = 0` of the primary table (R127). -/
def quadrant0 (b n : Byte) (nn : Word) : Instr :=
  match fieldZ b with
  | 0 =>
    match fieldY b with
    | 0 => .nop
    | 1 => .ldIndNnSp nn
    | 2 => .stop n
    | 3 => .jrN n
    | y => Form.jrCond (condOf y) n
  | 1 => if fieldQ b then Form.addHlPair (r16Of (fieldP b)) else Form.ldPairImm (r16Of (fieldP b)) nn
  | 2 =>
    match fieldY b with
    | 0 => .ldIndBcA
    | 1 => .ldAIndBc
    | 2 => .ldIndDeA
    | 3 => .ldAIndDe
    | 4 => .ldIndHlIncA
    | 5 => .ldAIndHlInc
    | 6 => .ldIndHlDecA
    | 7 => .ldAIndHlDec
  | 3 => if fieldQ b then Form.decPair (r16Of (fieldP b)) else Form.incPair (r16Of (fieldP b))
  | 4 => Form.inc (r8Of (fieldY b))
  | 5 => Form.dec (r8Of (fieldY b))
  | 6 => Form.ldOperandImm (r8Of (fieldY b)) n
  | 7 =>
    match fieldY b with
    | 0 => .rlca
    | 1 => .rrca
    | 2 => .rla
    | 3 => .rra
    | 4 => .daa
    | 5 => .cpl
    | 6 => .scf
    | 7 => .ccf

/-- Quadrant `x = 1`: `LD r8[y],r8[z]`, except 0x76, which is `HALT` (R127). -/
def quadrant1 (b : Byte) : Instr :=
  match r8Of (fieldY b), r8Of (fieldZ b) with
  | .reg dst, .reg src => Form.ldRegReg dst src
  | .reg dst, .hlInd => Form.ldRegInd dst
  | .hlInd, .reg src => Form.ldIndReg src
  | .hlInd, .hlInd => .halt

/-- Quadrant `x = 2`: `alu[y] A,r8[z]` (R127). -/
def quadrant2 (b : Byte) : Instr := Form.alu (aluOf (fieldY b)) (r8Of (fieldZ b))

/-- Quadrant `x = 3` (R127); the removed bytes resolve to `illegal` (R121), 0xCB to the prefix entry (R120). -/
def quadrant3 (b n : Byte) (nn : Word) : Instr :=
  match fieldZ b with
  | 0 =>
    match fieldY b with
    | 4 => .ldhIndNA n
    | 5 => .addSpN n
    | 6 => .ldhAIndN n
    | 7 => .ldHlSpN n
    | y => Form.retCond (condOf y)
  | 1 =>
    if fieldQ b then
      match fieldP b with
      | 0 => .ret
      | 1 => .reti
      | 2 => .jpHl
      | 3 => .ldSpHl
    else Form.pop (stk16Of (fieldP b))
  | 2 =>
    match fieldY b with
    | 4 => .ldIndCA
    | 5 => .ldIndNnA nn
    | 6 => .ldAIndC
    | 7 => .ldAIndNn nn
    | y => Form.jpCond (condOf y) nn
  | 3 =>
    match fieldY b with
    | 0 => .jpNn nn
    | 1 => .prefixCb n
    | 6 => .di
    | 7 => .ei
    | _ => .illegal b
  | 4 =>
    match fieldY b with
    | 0 | 1 | 2 | 3 => Form.callCond (condOf (fieldY b)) nn
    | _ => .illegal b
  | 5 =>
    if fieldQ b then
      match fieldP b with
      | 0 => .callNn nn
      | _ => .illegal b
    else Form.push (stk16Of (fieldP b))
  | 6 => Form.aluImm (aluOf (fieldY b)) n
  | 7 => Form.rst (fieldY b)

/-- The primary table: the entry of opcode byte `b`, with `n` the byte after it and `nn` the little-endian word after it
(R117, R118, R127). -/
def decodePrimary (b n : Byte) (nn : Word) : Instr :=
  match fieldX b with
  | 0 => quadrant0 b n nn
  | 1 => quadrant1 b
  | 2 => quadrant2 b
  | 3 => quadrant3 b n nn

/-- The extended table: the entry of the byte after the prefix (R128). -/
def decodeExtended (xop : Byte) : Instr :=
  match fieldX xop with
  | 0 => Form.rot (rotOf (fieldY xop)) (r8Of (fieldZ xop))
  | 1 => Form.bit (fieldY xop) (r8Of (fieldZ xop))
  | 2 => Form.res (fieldY xop) (r8Of (fieldZ xop))
  | 3 => Form.set (fieldY xop) (r8Of (fieldZ xop))

/-- The instruction whose first bytes are `b0`, `b1`, `b2`; bytes after its last are not looked at. The prefix entry
"redirects dispatch into the extended table" (R120). -/
def decodeBytes (b0 b1 b2 : Byte) : Instr :=
  match decodePrimary b0 b1 (Machine.joinBytes b1 b2) with
  | .prefixCb xop => decodeExtended xop
  | i => i

/-- The operand width of a primary entry, 0, 1 or 2 (R127's list). -/
def operandWidth (b : Byte) : Nat :=
  if [0x01, 0x11, 0x21, 0x31, 0x08, 0xC3, 0xC2, 0xCA, 0xD2, 0xDA, 0xCD, 0xC4, 0xCC, 0xD4, 0xDC, 0xEA, 0xFA].contains b then 2
  else if [0x06, 0x0E, 0x16, 0x1E, 0x26, 0x2E, 0x36, 0x3E, 0xC6, 0xCE, 0xD6, 0xDE, 0xE6, 0xEE, 0xF6, 0xFE,
    0x18, 0x20, 0x28, 0x30, 0x38, 0xE0, 0xF0, 0xE8, 0xF8, 0x10].contains b then 1
  else 0

/-- The length in bytes of an instruction, found "from byte 0 alone" (R110, R111). -/
def instrLength (b0 : Byte) : Nat := if b0 = 0xCB then 2 else 1 + operandWidth b0

/-- Why a byte list holds no instruction: DESIGN CHOICE, safe (log 18). The machine fetches its bytes from memory, which never ends
(R122), so no step meets one. -/
inductive DecodeError where
  /-- the list is empty -/
  | noBytes
  /-- fewer bytes than the instruction that this opcode byte begins -/
  | truncated (opcode : Byte)
  deriving DecidableEq, Repr

/-- Decode the instruction at the head of a byte list and give the bytes after it (R110, R122); a list shorter than its instruction
is an error of the model's (log 18). -/
def decode (bytes : List Byte) : Except DecodeError (Instr × List Byte) :=
  match bytes with
  | [] => .error .noBytes
  | b0 :: rest =>
    if rest.length + 1 < instrLength b0 then .error (.truncated b0)
    else .ok (decodeBytes b0 (rest.getD 0 0) (rest.getD 1 0), rest.drop (instrLength b0 - 1))

/-- The bytes of an instruction in fetch order, from the row of spec/opcode_table.json (30_encoding.md R111, R130). -/
def encode (i : Instr) : List Byte :=
  match i with
  | .nop => [0x00]
  | .ldBcNn nn => [0x01, Machine.lowByte nn, Machine.highByte nn]
  | .ldIndBcA => [0x02]
  | .incBc => [0x03]
  | .incB => [0x04]
  | .decB => [0x05]
  | .ldBN n => [0x06, n]
  | .rlca => [0x07]
  | .ldIndNnSp nn => [0x08, Machine.lowByte nn, Machine.highByte nn]
  | .addHlBc => [0x09]
  | .ldAIndBc => [0x0A]
  | .decBc => [0x0B]
  | .incC => [0x0C]
  | .decC => [0x0D]
  | .ldCN n => [0x0E, n]
  | .rrca => [0x0F]
  | .stop n => [0x10, n]
  | .ldDeNn nn => [0x11, Machine.lowByte nn, Machine.highByte nn]
  | .ldIndDeA => [0x12]
  | .incDe => [0x13]
  | .incD => [0x14]
  | .decD => [0x15]
  | .ldDN n => [0x16, n]
  | .rla => [0x17]
  | .jrN n => [0x18, n]
  | .addHlDe => [0x19]
  | .ldAIndDe => [0x1A]
  | .decDe => [0x1B]
  | .incE => [0x1C]
  | .decE => [0x1D]
  | .ldEN n => [0x1E, n]
  | .rra => [0x1F]
  | .jrNzN n => [0x20, n]
  | .ldHlNn nn => [0x21, Machine.lowByte nn, Machine.highByte nn]
  | .ldIndHlIncA => [0x22]
  | .incHl => [0x23]
  | .incH => [0x24]
  | .decH => [0x25]
  | .ldHN n => [0x26, n]
  | .daa => [0x27]
  | .jrZN n => [0x28, n]
  | .addHlHl => [0x29]
  | .ldAIndHlInc => [0x2A]
  | .decHl => [0x2B]
  | .incL => [0x2C]
  | .decL => [0x2D]
  | .ldLN n => [0x2E, n]
  | .cpl => [0x2F]
  | .jrNcN n => [0x30, n]
  | .ldSpNn nn => [0x31, Machine.lowByte nn, Machine.highByte nn]
  | .ldIndHlDecA => [0x32]
  | .incSp => [0x33]
  | .incIndHl => [0x34]
  | .decIndHl => [0x35]
  | .ldIndHlN n => [0x36, n]
  | .scf => [0x37]
  | .jrCN n => [0x38, n]
  | .addHlSp => [0x39]
  | .ldAIndHlDec => [0x3A]
  | .decSp => [0x3B]
  | .incA => [0x3C]
  | .decA => [0x3D]
  | .ldAN n => [0x3E, n]
  | .ccf => [0x3F]
  | .ldBB => [0x40]
  | .ldBC => [0x41]
  | .ldBD => [0x42]
  | .ldBE => [0x43]
  | .ldBH => [0x44]
  | .ldBL => [0x45]
  | .ldBIndHl => [0x46]
  | .ldBA => [0x47]
  | .ldCB => [0x48]
  | .ldCC => [0x49]
  | .ldCD => [0x4A]
  | .ldCE => [0x4B]
  | .ldCH => [0x4C]
  | .ldCL => [0x4D]
  | .ldCIndHl => [0x4E]
  | .ldCA => [0x4F]
  | .ldDB => [0x50]
  | .ldDC => [0x51]
  | .ldDD => [0x52]
  | .ldDE => [0x53]
  | .ldDH => [0x54]
  | .ldDL => [0x55]
  | .ldDIndHl => [0x56]
  | .ldDA => [0x57]
  | .ldEB => [0x58]
  | .ldEC => [0x59]
  | .ldED => [0x5A]
  | .ldEE => [0x5B]
  | .ldEH => [0x5C]
  | .ldEL => [0x5D]
  | .ldEIndHl => [0x5E]
  | .ldEA => [0x5F]
  | .ldHB => [0x60]
  | .ldHC => [0x61]
  | .ldHD => [0x62]
  | .ldHE => [0x63]
  | .ldHH => [0x64]
  | .ldHL => [0x65]
  | .ldHIndHl => [0x66]
  | .ldHA => [0x67]
  | .ldLB => [0x68]
  | .ldLC => [0x69]
  | .ldLD => [0x6A]
  | .ldLE => [0x6B]
  | .ldLH => [0x6C]
  | .ldLL => [0x6D]
  | .ldLIndHl => [0x6E]
  | .ldLA => [0x6F]
  | .ldIndHlB => [0x70]
  | .ldIndHlC => [0x71]
  | .ldIndHlD => [0x72]
  | .ldIndHlE => [0x73]
  | .ldIndHlH => [0x74]
  | .ldIndHlL => [0x75]
  | .halt => [0x76]
  | .ldIndHlA => [0x77]
  | .ldAB => [0x78]
  | .ldAC => [0x79]
  | .ldAD => [0x7A]
  | .ldAE => [0x7B]
  | .ldAH => [0x7C]
  | .ldAL => [0x7D]
  | .ldAIndHl => [0x7E]
  | .ldAA => [0x7F]
  | .addAB => [0x80]
  | .addAC => [0x81]
  | .addAD => [0x82]
  | .addAE => [0x83]
  | .addAH => [0x84]
  | .addAL => [0x85]
  | .addAIndHl => [0x86]
  | .addAA => [0x87]
  | .adcAB => [0x88]
  | .adcAC => [0x89]
  | .adcAD => [0x8A]
  | .adcAE => [0x8B]
  | .adcAH => [0x8C]
  | .adcAL => [0x8D]
  | .adcAIndHl => [0x8E]
  | .adcAA => [0x8F]
  | .subAB => [0x90]
  | .subAC => [0x91]
  | .subAD => [0x92]
  | .subAE => [0x93]
  | .subAH => [0x94]
  | .subAL => [0x95]
  | .subAIndHl => [0x96]
  | .subAA => [0x97]
  | .sbcAB => [0x98]
  | .sbcAC => [0x99]
  | .sbcAD => [0x9A]
  | .sbcAE => [0x9B]
  | .sbcAH => [0x9C]
  | .sbcAL => [0x9D]
  | .sbcAIndHl => [0x9E]
  | .sbcAA => [0x9F]
  | .andAB => [0xA0]
  | .andAC => [0xA1]
  | .andAD => [0xA2]
  | .andAE => [0xA3]
  | .andAH => [0xA4]
  | .andAL => [0xA5]
  | .andAIndHl => [0xA6]
  | .andAA => [0xA7]
  | .xorAB => [0xA8]
  | .xorAC => [0xA9]
  | .xorAD => [0xAA]
  | .xorAE => [0xAB]
  | .xorAH => [0xAC]
  | .xorAL => [0xAD]
  | .xorAIndHl => [0xAE]
  | .xorAA => [0xAF]
  | .orAB => [0xB0]
  | .orAC => [0xB1]
  | .orAD => [0xB2]
  | .orAE => [0xB3]
  | .orAH => [0xB4]
  | .orAL => [0xB5]
  | .orAIndHl => [0xB6]
  | .orAA => [0xB7]
  | .cpAB => [0xB8]
  | .cpAC => [0xB9]
  | .cpAD => [0xBA]
  | .cpAE => [0xBB]
  | .cpAH => [0xBC]
  | .cpAL => [0xBD]
  | .cpAIndHl => [0xBE]
  | .cpAA => [0xBF]
  | .retNz => [0xC0]
  | .popBc => [0xC1]
  | .jpNzNn nn => [0xC2, Machine.lowByte nn, Machine.highByte nn]
  | .jpNn nn => [0xC3, Machine.lowByte nn, Machine.highByte nn]
  | .callNzNn nn => [0xC4, Machine.lowByte nn, Machine.highByte nn]
  | .pushBc => [0xC5]
  | .addAN n => [0xC6, n]
  | .rst00 => [0xC7]
  | .retZ => [0xC8]
  | .ret => [0xC9]
  | .jpZNn nn => [0xCA, Machine.lowByte nn, Machine.highByte nn]
  | .prefixCb xop => [0xCB, xop]
  | .callZNn nn => [0xCC, Machine.lowByte nn, Machine.highByte nn]
  | .callNn nn => [0xCD, Machine.lowByte nn, Machine.highByte nn]
  | .adcAN n => [0xCE, n]
  | .rst08 => [0xCF]
  | .retNc => [0xD0]
  | .popDe => [0xD1]
  | .jpNcNn nn => [0xD2, Machine.lowByte nn, Machine.highByte nn]
  | .illegal opcode => [opcode]
  | .callNcNn nn => [0xD4, Machine.lowByte nn, Machine.highByte nn]
  | .pushDe => [0xD5]
  | .subAN n => [0xD6, n]
  | .rst10 => [0xD7]
  | .retC => [0xD8]
  | .reti => [0xD9]
  | .jpCNn nn => [0xDA, Machine.lowByte nn, Machine.highByte nn]
  | .callCNn nn => [0xDC, Machine.lowByte nn, Machine.highByte nn]
  | .sbcAN n => [0xDE, n]
  | .rst18 => [0xDF]
  | .ldhIndNA n => [0xE0, n]
  | .popHl => [0xE1]
  | .ldIndCA => [0xE2]
  | .pushHl => [0xE5]
  | .andAN n => [0xE6, n]
  | .rst20 => [0xE7]
  | .addSpN n => [0xE8, n]
  | .jpHl => [0xE9]
  | .ldIndNnA nn => [0xEA, Machine.lowByte nn, Machine.highByte nn]
  | .xorAN n => [0xEE, n]
  | .rst28 => [0xEF]
  | .ldhAIndN n => [0xF0, n]
  | .popAf => [0xF1]
  | .ldAIndC => [0xF2]
  | .di => [0xF3]
  | .pushAf => [0xF5]
  | .orAN n => [0xF6, n]
  | .rst30 => [0xF7]
  | .ldHlSpN n => [0xF8, n]
  | .ldSpHl => [0xF9]
  | .ldAIndNn nn => [0xFA, Machine.lowByte nn, Machine.highByte nn]
  | .ei => [0xFB]
  | .cpAN n => [0xFE, n]
  | .rst38 => [0xFF]
  | .rlcB => [0xCB, 0x00]
  | .rlcC => [0xCB, 0x01]
  | .rlcD => [0xCB, 0x02]
  | .rlcE => [0xCB, 0x03]
  | .rlcH => [0xCB, 0x04]
  | .rlcL => [0xCB, 0x05]
  | .rlcIndHl => [0xCB, 0x06]
  | .rlcA => [0xCB, 0x07]
  | .rrcB => [0xCB, 0x08]
  | .rrcC => [0xCB, 0x09]
  | .rrcD => [0xCB, 0x0A]
  | .rrcE => [0xCB, 0x0B]
  | .rrcH => [0xCB, 0x0C]
  | .rrcL => [0xCB, 0x0D]
  | .rrcIndHl => [0xCB, 0x0E]
  | .rrcA => [0xCB, 0x0F]
  | .rlB => [0xCB, 0x10]
  | .rlC => [0xCB, 0x11]
  | .rlD => [0xCB, 0x12]
  | .rlE => [0xCB, 0x13]
  | .rlH => [0xCB, 0x14]
  | .rlL => [0xCB, 0x15]
  | .rlIndHl => [0xCB, 0x16]
  | .rlA => [0xCB, 0x17]
  | .rrB => [0xCB, 0x18]
  | .rrC => [0xCB, 0x19]
  | .rrD => [0xCB, 0x1A]
  | .rrE => [0xCB, 0x1B]
  | .rrH => [0xCB, 0x1C]
  | .rrL => [0xCB, 0x1D]
  | .rrIndHl => [0xCB, 0x1E]
  | .rrA => [0xCB, 0x1F]
  | .slaB => [0xCB, 0x20]
  | .slaC => [0xCB, 0x21]
  | .slaD => [0xCB, 0x22]
  | .slaE => [0xCB, 0x23]
  | .slaH => [0xCB, 0x24]
  | .slaL => [0xCB, 0x25]
  | .slaIndHl => [0xCB, 0x26]
  | .slaA => [0xCB, 0x27]
  | .sraB => [0xCB, 0x28]
  | .sraC => [0xCB, 0x29]
  | .sraD => [0xCB, 0x2A]
  | .sraE => [0xCB, 0x2B]
  | .sraH => [0xCB, 0x2C]
  | .sraL => [0xCB, 0x2D]
  | .sraIndHl => [0xCB, 0x2E]
  | .sraA => [0xCB, 0x2F]
  | .swapB => [0xCB, 0x30]
  | .swapC => [0xCB, 0x31]
  | .swapD => [0xCB, 0x32]
  | .swapE => [0xCB, 0x33]
  | .swapH => [0xCB, 0x34]
  | .swapL => [0xCB, 0x35]
  | .swapIndHl => [0xCB, 0x36]
  | .swapA => [0xCB, 0x37]
  | .srlB => [0xCB, 0x38]
  | .srlC => [0xCB, 0x39]
  | .srlD => [0xCB, 0x3A]
  | .srlE => [0xCB, 0x3B]
  | .srlH => [0xCB, 0x3C]
  | .srlL => [0xCB, 0x3D]
  | .srlIndHl => [0xCB, 0x3E]
  | .srlA => [0xCB, 0x3F]
  | .bit0B => [0xCB, 0x40]
  | .bit0C => [0xCB, 0x41]
  | .bit0D => [0xCB, 0x42]
  | .bit0E => [0xCB, 0x43]
  | .bit0H => [0xCB, 0x44]
  | .bit0L => [0xCB, 0x45]
  | .bit0IndHl => [0xCB, 0x46]
  | .bit0A => [0xCB, 0x47]
  | .bit1B => [0xCB, 0x48]
  | .bit1C => [0xCB, 0x49]
  | .bit1D => [0xCB, 0x4A]
  | .bit1E => [0xCB, 0x4B]
  | .bit1H => [0xCB, 0x4C]
  | .bit1L => [0xCB, 0x4D]
  | .bit1IndHl => [0xCB, 0x4E]
  | .bit1A => [0xCB, 0x4F]
  | .bit2B => [0xCB, 0x50]
  | .bit2C => [0xCB, 0x51]
  | .bit2D => [0xCB, 0x52]
  | .bit2E => [0xCB, 0x53]
  | .bit2H => [0xCB, 0x54]
  | .bit2L => [0xCB, 0x55]
  | .bit2IndHl => [0xCB, 0x56]
  | .bit2A => [0xCB, 0x57]
  | .bit3B => [0xCB, 0x58]
  | .bit3C => [0xCB, 0x59]
  | .bit3D => [0xCB, 0x5A]
  | .bit3E => [0xCB, 0x5B]
  | .bit3H => [0xCB, 0x5C]
  | .bit3L => [0xCB, 0x5D]
  | .bit3IndHl => [0xCB, 0x5E]
  | .bit3A => [0xCB, 0x5F]
  | .bit4B => [0xCB, 0x60]
  | .bit4C => [0xCB, 0x61]
  | .bit4D => [0xCB, 0x62]
  | .bit4E => [0xCB, 0x63]
  | .bit4H => [0xCB, 0x64]
  | .bit4L => [0xCB, 0x65]
  | .bit4IndHl => [0xCB, 0x66]
  | .bit4A => [0xCB, 0x67]
  | .bit5B => [0xCB, 0x68]
  | .bit5C => [0xCB, 0x69]
  | .bit5D => [0xCB, 0x6A]
  | .bit5E => [0xCB, 0x6B]
  | .bit5H => [0xCB, 0x6C]
  | .bit5L => [0xCB, 0x6D]
  | .bit5IndHl => [0xCB, 0x6E]
  | .bit5A => [0xCB, 0x6F]
  | .bit6B => [0xCB, 0x70]
  | .bit6C => [0xCB, 0x71]
  | .bit6D => [0xCB, 0x72]
  | .bit6E => [0xCB, 0x73]
  | .bit6H => [0xCB, 0x74]
  | .bit6L => [0xCB, 0x75]
  | .bit6IndHl => [0xCB, 0x76]
  | .bit6A => [0xCB, 0x77]
  | .bit7B => [0xCB, 0x78]
  | .bit7C => [0xCB, 0x79]
  | .bit7D => [0xCB, 0x7A]
  | .bit7E => [0xCB, 0x7B]
  | .bit7H => [0xCB, 0x7C]
  | .bit7L => [0xCB, 0x7D]
  | .bit7IndHl => [0xCB, 0x7E]
  | .bit7A => [0xCB, 0x7F]
  | .res0B => [0xCB, 0x80]
  | .res0C => [0xCB, 0x81]
  | .res0D => [0xCB, 0x82]
  | .res0E => [0xCB, 0x83]
  | .res0H => [0xCB, 0x84]
  | .res0L => [0xCB, 0x85]
  | .res0IndHl => [0xCB, 0x86]
  | .res0A => [0xCB, 0x87]
  | .res1B => [0xCB, 0x88]
  | .res1C => [0xCB, 0x89]
  | .res1D => [0xCB, 0x8A]
  | .res1E => [0xCB, 0x8B]
  | .res1H => [0xCB, 0x8C]
  | .res1L => [0xCB, 0x8D]
  | .res1IndHl => [0xCB, 0x8E]
  | .res1A => [0xCB, 0x8F]
  | .res2B => [0xCB, 0x90]
  | .res2C => [0xCB, 0x91]
  | .res2D => [0xCB, 0x92]
  | .res2E => [0xCB, 0x93]
  | .res2H => [0xCB, 0x94]
  | .res2L => [0xCB, 0x95]
  | .res2IndHl => [0xCB, 0x96]
  | .res2A => [0xCB, 0x97]
  | .res3B => [0xCB, 0x98]
  | .res3C => [0xCB, 0x99]
  | .res3D => [0xCB, 0x9A]
  | .res3E => [0xCB, 0x9B]
  | .res3H => [0xCB, 0x9C]
  | .res3L => [0xCB, 0x9D]
  | .res3IndHl => [0xCB, 0x9E]
  | .res3A => [0xCB, 0x9F]
  | .res4B => [0xCB, 0xA0]
  | .res4C => [0xCB, 0xA1]
  | .res4D => [0xCB, 0xA2]
  | .res4E => [0xCB, 0xA3]
  | .res4H => [0xCB, 0xA4]
  | .res4L => [0xCB, 0xA5]
  | .res4IndHl => [0xCB, 0xA6]
  | .res4A => [0xCB, 0xA7]
  | .res5B => [0xCB, 0xA8]
  | .res5C => [0xCB, 0xA9]
  | .res5D => [0xCB, 0xAA]
  | .res5E => [0xCB, 0xAB]
  | .res5H => [0xCB, 0xAC]
  | .res5L => [0xCB, 0xAD]
  | .res5IndHl => [0xCB, 0xAE]
  | .res5A => [0xCB, 0xAF]
  | .res6B => [0xCB, 0xB0]
  | .res6C => [0xCB, 0xB1]
  | .res6D => [0xCB, 0xB2]
  | .res6E => [0xCB, 0xB3]
  | .res6H => [0xCB, 0xB4]
  | .res6L => [0xCB, 0xB5]
  | .res6IndHl => [0xCB, 0xB6]
  | .res6A => [0xCB, 0xB7]
  | .res7B => [0xCB, 0xB8]
  | .res7C => [0xCB, 0xB9]
  | .res7D => [0xCB, 0xBA]
  | .res7E => [0xCB, 0xBB]
  | .res7H => [0xCB, 0xBC]
  | .res7L => [0xCB, 0xBD]
  | .res7IndHl => [0xCB, 0xBE]
  | .res7A => [0xCB, 0xBF]
  | .set0B => [0xCB, 0xC0]
  | .set0C => [0xCB, 0xC1]
  | .set0D => [0xCB, 0xC2]
  | .set0E => [0xCB, 0xC3]
  | .set0H => [0xCB, 0xC4]
  | .set0L => [0xCB, 0xC5]
  | .set0IndHl => [0xCB, 0xC6]
  | .set0A => [0xCB, 0xC7]
  | .set1B => [0xCB, 0xC8]
  | .set1C => [0xCB, 0xC9]
  | .set1D => [0xCB, 0xCA]
  | .set1E => [0xCB, 0xCB]
  | .set1H => [0xCB, 0xCC]
  | .set1L => [0xCB, 0xCD]
  | .set1IndHl => [0xCB, 0xCE]
  | .set1A => [0xCB, 0xCF]
  | .set2B => [0xCB, 0xD0]
  | .set2C => [0xCB, 0xD1]
  | .set2D => [0xCB, 0xD2]
  | .set2E => [0xCB, 0xD3]
  | .set2H => [0xCB, 0xD4]
  | .set2L => [0xCB, 0xD5]
  | .set2IndHl => [0xCB, 0xD6]
  | .set2A => [0xCB, 0xD7]
  | .set3B => [0xCB, 0xD8]
  | .set3C => [0xCB, 0xD9]
  | .set3D => [0xCB, 0xDA]
  | .set3E => [0xCB, 0xDB]
  | .set3H => [0xCB, 0xDC]
  | .set3L => [0xCB, 0xDD]
  | .set3IndHl => [0xCB, 0xDE]
  | .set3A => [0xCB, 0xDF]
  | .set4B => [0xCB, 0xE0]
  | .set4C => [0xCB, 0xE1]
  | .set4D => [0xCB, 0xE2]
  | .set4E => [0xCB, 0xE3]
  | .set4H => [0xCB, 0xE4]
  | .set4L => [0xCB, 0xE5]
  | .set4IndHl => [0xCB, 0xE6]
  | .set4A => [0xCB, 0xE7]
  | .set5B => [0xCB, 0xE8]
  | .set5C => [0xCB, 0xE9]
  | .set5D => [0xCB, 0xEA]
  | .set5E => [0xCB, 0xEB]
  | .set5H => [0xCB, 0xEC]
  | .set5L => [0xCB, 0xED]
  | .set5IndHl => [0xCB, 0xEE]
  | .set5A => [0xCB, 0xEF]
  | .set6B => [0xCB, 0xF0]
  | .set6C => [0xCB, 0xF1]
  | .set6D => [0xCB, 0xF2]
  | .set6E => [0xCB, 0xF3]
  | .set6H => [0xCB, 0xF4]
  | .set6L => [0xCB, 0xF5]
  | .set6IndHl => [0xCB, 0xF6]
  | .set6A => [0xCB, 0xF7]
  | .set7B => [0xCB, 0xF8]
  | .set7C => [0xCB, 0xF9]
  | .set7D => [0xCB, 0xFA]
  | .set7E => [0xCB, 0xFB]
  | .set7H => [0xCB, 0xFC]
  | .set7L => [0xCB, 0xFD]
  | .set7IndHl => [0xCB, 0xFE]
  | .set7A => [0xCB, 0xFF]

/-- The three bytes, in fetch order, of an instruction whose bits are `w` numbered as spec/opcode_table.json numbers them
(log 8): a 16-bit row is an extended entry, whose first byte, 0xCB, is in bits 15:8 (R130); in every other case the first byte
is the least significant. Bits above `nbits` are 0. -/
def tableBytes (nbits w : Nat) : List Byte :=
  let w := w % 2 ^ nbits
  if nbits = 16 ∧ w / 256 = 0xCB then [0xCB, BitVec.ofNat 8 w, 0]
  else [BitVec.ofNat 8 w, BitVec.ofNat 8 (w / 256), BitVec.ofNat 8 (w / 65536)]

/-- The instruction the decoder reads from a row's bits (log 8). -/
def decodeTableWord (nbits w : Nat) : Option Instr :=
  match decode (tableBytes nbits w) with
  | .ok (i, _) => some i
  | .error _ => none

end Sys2Proof
end

