-- ==== Sys2Proof/Machine/Rotate.lean ====
section
/-! DEFINITION. The rotates, shifts, swap and bit operations (44_rotate_shift_bit.md), and the prefix entry that reaches the
extended table (46_misc.md R295). -/
namespace Sys2Proof.Machine

/-- An accumulator rotate of the primary table (R241 to R244). -/
def rotAcc (op : RotOp) (s : State) : Result := .next ((s.putAcc (rotAccEval op s.getA s.flags.c)).charge 4)

/-- `rot[y] r8[z]`: 8 cycles on a register, 16 on `(HL)` (R240, R245 to R252). -/
def rotOperand (op : RotOp) (o : Operand8) (s : State) : Result :=
  let r := rotEval op (s.readOperand o) s.flags.c
  .next (((s.writeOperand o r.value).setFlags r.flags).charge (operandCost o 8 16))

/-- `BIT b,r8[z]`: 8 cycles on a register, 12 on `(HL)`; nothing is written but flags (R240, R253). -/
def bitOperand (b : Fin 8) (o : Operand8) (s : State) : Result :=
  .next ((s.setFlags (bitTestFlags b (s.readOperand o) s.flags)).charge (operandCost o 8 12))

/-- `RES b,r8[z]`: `v & ~(1 << b)`, no flags (R240, R254). -/
def resOperand (b : Fin 8) (o : Operand8) (s : State) : Result :=
  .next ((s.writeOperand o (s.readOperand o &&& ~~~(oneBit b.val))).charge (operandCost o 8 16))

/-- `SET b,r8[z]`: `v | (1 << b)`, no flags (R240, R255). -/
def setOperand (b : Fin 8) (o : Operand8) (s : State) : Result :=
  .next ((s.writeOperand o (s.readOperand o ||| oneBit b.val)).charge (operandCost o 8 16))

/-- `RLCA` 07, R241. -/
def execRlca (s : State) : Result := rotAcc .rlc s

/-- `RRCA` 0F, R242. -/
def execRrca (s : State) : Result := rotAcc .rrc s

/-- `RLA` 17, R243. -/
def execRla (s : State) : Result := rotAcc .rl s

/-- `RRA` 1F, R244. -/
def execRra (s : State) : Result := rotAcc .rr s

/-- `RLC B` CB 00, R245. -/
def execRlcB (s : State) : Result := rotOperand .rlc (.reg .b) s

/-- `RLC C` CB 01, R245. -/
def execRlcC (s : State) : Result := rotOperand .rlc (.reg .c) s

/-- `RLC D` CB 02, R245. -/
def execRlcD (s : State) : Result := rotOperand .rlc (.reg .d) s

/-- `RLC E` CB 03, R245. -/
def execRlcE (s : State) : Result := rotOperand .rlc (.reg .e) s

/-- `RLC H` CB 04, R245. -/
def execRlcH (s : State) : Result := rotOperand .rlc (.reg .h) s

/-- `RLC L` CB 05, R245. -/
def execRlcL (s : State) : Result := rotOperand .rlc (.reg .l) s

/-- `RLC A` CB 07, R245. -/
def execRlcA (s : State) : Result := rotOperand .rlc (.reg .a) s

/-- `RLC (HL)` CB 06, R245. -/
def execRlcIndHl (s : State) : Result := rotOperand .rlc .hlInd s

/-- `RRC B` CB 08, R246. -/
def execRrcB (s : State) : Result := rotOperand .rrc (.reg .b) s

/-- `RRC C` CB 09, R246. -/
def execRrcC (s : State) : Result := rotOperand .rrc (.reg .c) s

/-- `RRC D` CB 0A, R246. -/
def execRrcD (s : State) : Result := rotOperand .rrc (.reg .d) s

/-- `RRC E` CB 0B, R246. -/
def execRrcE (s : State) : Result := rotOperand .rrc (.reg .e) s

/-- `RRC H` CB 0C, R246. -/
def execRrcH (s : State) : Result := rotOperand .rrc (.reg .h) s

/-- `RRC L` CB 0D, R246. -/
def execRrcL (s : State) : Result := rotOperand .rrc (.reg .l) s

/-- `RRC A` CB 0F, R246. -/
def execRrcA (s : State) : Result := rotOperand .rrc (.reg .a) s

/-- `RRC (HL)` CB 0E, R246. -/
def execRrcIndHl (s : State) : Result := rotOperand .rrc .hlInd s

/-- `RL B` CB 10, R247. -/
def execRlB (s : State) : Result := rotOperand .rl (.reg .b) s

/-- `RL C` CB 11, R247. -/
def execRlC (s : State) : Result := rotOperand .rl (.reg .c) s

/-- `RL D` CB 12, R247. -/
def execRlD (s : State) : Result := rotOperand .rl (.reg .d) s

/-- `RL E` CB 13, R247. -/
def execRlE (s : State) : Result := rotOperand .rl (.reg .e) s

/-- `RL H` CB 14, R247. -/
def execRlH (s : State) : Result := rotOperand .rl (.reg .h) s

/-- `RL L` CB 15, R247. -/
def execRlL (s : State) : Result := rotOperand .rl (.reg .l) s

/-- `RL A` CB 17, R247. -/
def execRlA (s : State) : Result := rotOperand .rl (.reg .a) s

/-- `RL (HL)` CB 16, R247. -/
def execRlIndHl (s : State) : Result := rotOperand .rl .hlInd s

/-- `RR B` CB 18, R248. -/
def execRrB (s : State) : Result := rotOperand .rr (.reg .b) s

/-- `RR C` CB 19, R248. -/
def execRrC (s : State) : Result := rotOperand .rr (.reg .c) s

/-- `RR D` CB 1A, R248. -/
def execRrD (s : State) : Result := rotOperand .rr (.reg .d) s

/-- `RR E` CB 1B, R248. -/
def execRrE (s : State) : Result := rotOperand .rr (.reg .e) s

/-- `RR H` CB 1C, R248. -/
def execRrH (s : State) : Result := rotOperand .rr (.reg .h) s

/-- `RR L` CB 1D, R248. -/
def execRrL (s : State) : Result := rotOperand .rr (.reg .l) s

/-- `RR A` CB 1F, R248. -/
def execRrA (s : State) : Result := rotOperand .rr (.reg .a) s

/-- `RR (HL)` CB 1E, R248. -/
def execRrIndHl (s : State) : Result := rotOperand .rr .hlInd s

/-- `SLA B` CB 20, R249. -/
def execSlaB (s : State) : Result := rotOperand .sla (.reg .b) s

/-- `SLA C` CB 21, R249. -/
def execSlaC (s : State) : Result := rotOperand .sla (.reg .c) s

/-- `SLA D` CB 22, R249. -/
def execSlaD (s : State) : Result := rotOperand .sla (.reg .d) s

/-- `SLA E` CB 23, R249. -/
def execSlaE (s : State) : Result := rotOperand .sla (.reg .e) s

/-- `SLA H` CB 24, R249. -/
def execSlaH (s : State) : Result := rotOperand .sla (.reg .h) s

/-- `SLA L` CB 25, R249. -/
def execSlaL (s : State) : Result := rotOperand .sla (.reg .l) s

/-- `SLA A` CB 27, R249. -/
def execSlaA (s : State) : Result := rotOperand .sla (.reg .a) s

/-- `SLA (HL)` CB 26, R249. -/
def execSlaIndHl (s : State) : Result := rotOperand .sla .hlInd s

/-- `SRA B` CB 28, R250. -/
def execSraB (s : State) : Result := rotOperand .sra (.reg .b) s

/-- `SRA C` CB 29, R250. -/
def execSraC (s : State) : Result := rotOperand .sra (.reg .c) s

/-- `SRA D` CB 2A, R250. -/
def execSraD (s : State) : Result := rotOperand .sra (.reg .d) s

/-- `SRA E` CB 2B, R250. -/
def execSraE (s : State) : Result := rotOperand .sra (.reg .e) s

/-- `SRA H` CB 2C, R250. -/
def execSraH (s : State) : Result := rotOperand .sra (.reg .h) s

/-- `SRA L` CB 2D, R250. -/
def execSraL (s : State) : Result := rotOperand .sra (.reg .l) s

/-- `SRA A` CB 2F, R250. -/
def execSraA (s : State) : Result := rotOperand .sra (.reg .a) s

/-- `SRA (HL)` CB 2E, R250. -/
def execSraIndHl (s : State) : Result := rotOperand .sra .hlInd s

/-- `SWAP B` CB 30, R251. -/
def execSwapB (s : State) : Result := rotOperand .swap (.reg .b) s

/-- `SWAP C` CB 31, R251. -/
def execSwapC (s : State) : Result := rotOperand .swap (.reg .c) s

/-- `SWAP D` CB 32, R251. -/
def execSwapD (s : State) : Result := rotOperand .swap (.reg .d) s

/-- `SWAP E` CB 33, R251. -/
def execSwapE (s : State) : Result := rotOperand .swap (.reg .e) s

/-- `SWAP H` CB 34, R251. -/
def execSwapH (s : State) : Result := rotOperand .swap (.reg .h) s

/-- `SWAP L` CB 35, R251. -/
def execSwapL (s : State) : Result := rotOperand .swap (.reg .l) s

/-- `SWAP A` CB 37, R251. -/
def execSwapA (s : State) : Result := rotOperand .swap (.reg .a) s

/-- `SWAP (HL)` CB 36, R251. -/
def execSwapIndHl (s : State) : Result := rotOperand .swap .hlInd s

/-- `SRL B` CB 38, R252. -/
def execSrlB (s : State) : Result := rotOperand .srl (.reg .b) s

/-- `SRL C` CB 39, R252. -/
def execSrlC (s : State) : Result := rotOperand .srl (.reg .c) s

/-- `SRL D` CB 3A, R252. -/
def execSrlD (s : State) : Result := rotOperand .srl (.reg .d) s

/-- `SRL E` CB 3B, R252. -/
def execSrlE (s : State) : Result := rotOperand .srl (.reg .e) s

/-- `SRL H` CB 3C, R252. -/
def execSrlH (s : State) : Result := rotOperand .srl (.reg .h) s

/-- `SRL L` CB 3D, R252. -/
def execSrlL (s : State) : Result := rotOperand .srl (.reg .l) s

/-- `SRL A` CB 3F, R252. -/
def execSrlA (s : State) : Result := rotOperand .srl (.reg .a) s

/-- `SRL (HL)` CB 3E, R252. -/
def execSrlIndHl (s : State) : Result := rotOperand .srl .hlInd s

/-- `BIT 0,B` CB 40, R253. -/
def execBit0B (s : State) : Result := bitOperand 0 (.reg .b) s

/-- `BIT 0,C` CB 41, R253. -/
def execBit0C (s : State) : Result := bitOperand 0 (.reg .c) s

/-- `BIT 0,D` CB 42, R253. -/
def execBit0D (s : State) : Result := bitOperand 0 (.reg .d) s

/-- `BIT 0,E` CB 43, R253. -/
def execBit0E (s : State) : Result := bitOperand 0 (.reg .e) s

/-- `BIT 0,H` CB 44, R253. -/
def execBit0H (s : State) : Result := bitOperand 0 (.reg .h) s

/-- `BIT 0,L` CB 45, R253. -/
def execBit0L (s : State) : Result := bitOperand 0 (.reg .l) s

/-- `BIT 0,A` CB 47, R253. -/
def execBit0A (s : State) : Result := bitOperand 0 (.reg .a) s

/-- `BIT 0,(HL)` CB 46, R253. -/
def execBit0IndHl (s : State) : Result := bitOperand 0 .hlInd s

/-- `BIT 1,B` CB 48, R253. -/
def execBit1B (s : State) : Result := bitOperand 1 (.reg .b) s

/-- `BIT 1,C` CB 49, R253. -/
def execBit1C (s : State) : Result := bitOperand 1 (.reg .c) s

/-- `BIT 1,D` CB 4A, R253. -/
def execBit1D (s : State) : Result := bitOperand 1 (.reg .d) s

/-- `BIT 1,E` CB 4B, R253. -/
def execBit1E (s : State) : Result := bitOperand 1 (.reg .e) s

/-- `BIT 1,H` CB 4C, R253. -/
def execBit1H (s : State) : Result := bitOperand 1 (.reg .h) s

/-- `BIT 1,L` CB 4D, R253. -/
def execBit1L (s : State) : Result := bitOperand 1 (.reg .l) s

/-- `BIT 1,A` CB 4F, R253. -/
def execBit1A (s : State) : Result := bitOperand 1 (.reg .a) s

/-- `BIT 1,(HL)` CB 4E, R253. -/
def execBit1IndHl (s : State) : Result := bitOperand 1 .hlInd s

/-- `BIT 2,B` CB 50, R253. -/
def execBit2B (s : State) : Result := bitOperand 2 (.reg .b) s

/-- `BIT 2,C` CB 51, R253. -/
def execBit2C (s : State) : Result := bitOperand 2 (.reg .c) s

/-- `BIT 2,D` CB 52, R253. -/
def execBit2D (s : State) : Result := bitOperand 2 (.reg .d) s

/-- `BIT 2,E` CB 53, R253. -/
def execBit2E (s : State) : Result := bitOperand 2 (.reg .e) s

/-- `BIT 2,H` CB 54, R253. -/
def execBit2H (s : State) : Result := bitOperand 2 (.reg .h) s

/-- `BIT 2,L` CB 55, R253. -/
def execBit2L (s : State) : Result := bitOperand 2 (.reg .l) s

/-- `BIT 2,A` CB 57, R253. -/
def execBit2A (s : State) : Result := bitOperand 2 (.reg .a) s

/-- `BIT 2,(HL)` CB 56, R253. -/
def execBit2IndHl (s : State) : Result := bitOperand 2 .hlInd s

/-- `BIT 3,B` CB 58, R253. -/
def execBit3B (s : State) : Result := bitOperand 3 (.reg .b) s

/-- `BIT 3,C` CB 59, R253. -/
def execBit3C (s : State) : Result := bitOperand 3 (.reg .c) s

/-- `BIT 3,D` CB 5A, R253. -/
def execBit3D (s : State) : Result := bitOperand 3 (.reg .d) s

/-- `BIT 3,E` CB 5B, R253. -/
def execBit3E (s : State) : Result := bitOperand 3 (.reg .e) s

/-- `BIT 3,H` CB 5C, R253. -/
def execBit3H (s : State) : Result := bitOperand 3 (.reg .h) s

/-- `BIT 3,L` CB 5D, R253. -/
def execBit3L (s : State) : Result := bitOperand 3 (.reg .l) s

/-- `BIT 3,A` CB 5F, R253. -/
def execBit3A (s : State) : Result := bitOperand 3 (.reg .a) s

/-- `BIT 3,(HL)` CB 5E, R253. -/
def execBit3IndHl (s : State) : Result := bitOperand 3 .hlInd s

/-- `BIT 4,B` CB 60, R253. -/
def execBit4B (s : State) : Result := bitOperand 4 (.reg .b) s

/-- `BIT 4,C` CB 61, R253. -/
def execBit4C (s : State) : Result := bitOperand 4 (.reg .c) s

/-- `BIT 4,D` CB 62, R253. -/
def execBit4D (s : State) : Result := bitOperand 4 (.reg .d) s

/-- `BIT 4,E` CB 63, R253. -/
def execBit4E (s : State) : Result := bitOperand 4 (.reg .e) s

/-- `BIT 4,H` CB 64, R253. -/
def execBit4H (s : State) : Result := bitOperand 4 (.reg .h) s

/-- `BIT 4,L` CB 65, R253. -/
def execBit4L (s : State) : Result := bitOperand 4 (.reg .l) s

/-- `BIT 4,A` CB 67, R253. -/
def execBit4A (s : State) : Result := bitOperand 4 (.reg .a) s

/-- `BIT 4,(HL)` CB 66, R253. -/
def execBit4IndHl (s : State) : Result := bitOperand 4 .hlInd s

/-- `BIT 5,B` CB 68, R253. -/
def execBit5B (s : State) : Result := bitOperand 5 (.reg .b) s

/-- `BIT 5,C` CB 69, R253. -/
def execBit5C (s : State) : Result := bitOperand 5 (.reg .c) s

/-- `BIT 5,D` CB 6A, R253. -/
def execBit5D (s : State) : Result := bitOperand 5 (.reg .d) s

/-- `BIT 5,E` CB 6B, R253. -/
def execBit5E (s : State) : Result := bitOperand 5 (.reg .e) s

/-- `BIT 5,H` CB 6C, R253. -/
def execBit5H (s : State) : Result := bitOperand 5 (.reg .h) s

/-- `BIT 5,L` CB 6D, R253. -/
def execBit5L (s : State) : Result := bitOperand 5 (.reg .l) s

/-- `BIT 5,A` CB 6F, R253. -/
def execBit5A (s : State) : Result := bitOperand 5 (.reg .a) s

/-- `BIT 5,(HL)` CB 6E, R253. -/
def execBit5IndHl (s : State) : Result := bitOperand 5 .hlInd s

/-- `BIT 6,B` CB 70, R253. -/
def execBit6B (s : State) : Result := bitOperand 6 (.reg .b) s

/-- `BIT 6,C` CB 71, R253. -/
def execBit6C (s : State) : Result := bitOperand 6 (.reg .c) s

/-- `BIT 6,D` CB 72, R253. -/
def execBit6D (s : State) : Result := bitOperand 6 (.reg .d) s

/-- `BIT 6,E` CB 73, R253. -/
def execBit6E (s : State) : Result := bitOperand 6 (.reg .e) s

/-- `BIT 6,H` CB 74, R253. -/
def execBit6H (s : State) : Result := bitOperand 6 (.reg .h) s

/-- `BIT 6,L` CB 75, R253. -/
def execBit6L (s : State) : Result := bitOperand 6 (.reg .l) s

/-- `BIT 6,A` CB 77, R253. -/
def execBit6A (s : State) : Result := bitOperand 6 (.reg .a) s

/-- `BIT 6,(HL)` CB 76, R253. -/
def execBit6IndHl (s : State) : Result := bitOperand 6 .hlInd s

/-- `BIT 7,B` CB 78, R253. -/
def execBit7B (s : State) : Result := bitOperand 7 (.reg .b) s

/-- `BIT 7,C` CB 79, R253. -/
def execBit7C (s : State) : Result := bitOperand 7 (.reg .c) s

/-- `BIT 7,D` CB 7A, R253. -/
def execBit7D (s : State) : Result := bitOperand 7 (.reg .d) s

/-- `BIT 7,E` CB 7B, R253. -/
def execBit7E (s : State) : Result := bitOperand 7 (.reg .e) s

/-- `BIT 7,H` CB 7C, R253. -/
def execBit7H (s : State) : Result := bitOperand 7 (.reg .h) s

/-- `BIT 7,L` CB 7D, R253. -/
def execBit7L (s : State) : Result := bitOperand 7 (.reg .l) s

/-- `BIT 7,A` CB 7F, R253. -/
def execBit7A (s : State) : Result := bitOperand 7 (.reg .a) s

/-- `BIT 7,(HL)` CB 7E, R253. -/
def execBit7IndHl (s : State) : Result := bitOperand 7 .hlInd s

/-- `RES 0,B` CB 80, R254. -/
def execRes0B (s : State) : Result := resOperand 0 (.reg .b) s

/-- `RES 0,C` CB 81, R254. -/
def execRes0C (s : State) : Result := resOperand 0 (.reg .c) s

/-- `RES 0,D` CB 82, R254. -/
def execRes0D (s : State) : Result := resOperand 0 (.reg .d) s

/-- `RES 0,E` CB 83, R254. -/
def execRes0E (s : State) : Result := resOperand 0 (.reg .e) s

/-- `RES 0,H` CB 84, R254. -/
def execRes0H (s : State) : Result := resOperand 0 (.reg .h) s

/-- `RES 0,L` CB 85, R254. -/
def execRes0L (s : State) : Result := resOperand 0 (.reg .l) s

/-- `RES 0,A` CB 87, R254. -/
def execRes0A (s : State) : Result := resOperand 0 (.reg .a) s

/-- `RES 0,(HL)` CB 86, R254. -/
def execRes0IndHl (s : State) : Result := resOperand 0 .hlInd s

/-- `RES 1,B` CB 88, R254. -/
def execRes1B (s : State) : Result := resOperand 1 (.reg .b) s

/-- `RES 1,C` CB 89, R254. -/
def execRes1C (s : State) : Result := resOperand 1 (.reg .c) s

/-- `RES 1,D` CB 8A, R254. -/
def execRes1D (s : State) : Result := resOperand 1 (.reg .d) s

/-- `RES 1,E` CB 8B, R254. -/
def execRes1E (s : State) : Result := resOperand 1 (.reg .e) s

/-- `RES 1,H` CB 8C, R254. -/
def execRes1H (s : State) : Result := resOperand 1 (.reg .h) s

/-- `RES 1,L` CB 8D, R254. -/
def execRes1L (s : State) : Result := resOperand 1 (.reg .l) s

/-- `RES 1,A` CB 8F, R254. -/
def execRes1A (s : State) : Result := resOperand 1 (.reg .a) s

/-- `RES 1,(HL)` CB 8E, R254. -/
def execRes1IndHl (s : State) : Result := resOperand 1 .hlInd s

/-- `RES 2,B` CB 90, R254. -/
def execRes2B (s : State) : Result := resOperand 2 (.reg .b) s

/-- `RES 2,C` CB 91, R254. -/
def execRes2C (s : State) : Result := resOperand 2 (.reg .c) s

/-- `RES 2,D` CB 92, R254. -/
def execRes2D (s : State) : Result := resOperand 2 (.reg .d) s

/-- `RES 2,E` CB 93, R254. -/
def execRes2E (s : State) : Result := resOperand 2 (.reg .e) s

/-- `RES 2,H` CB 94, R254. -/
def execRes2H (s : State) : Result := resOperand 2 (.reg .h) s

/-- `RES 2,L` CB 95, R254. -/
def execRes2L (s : State) : Result := resOperand 2 (.reg .l) s

/-- `RES 2,A` CB 97, R254. -/
def execRes2A (s : State) : Result := resOperand 2 (.reg .a) s

/-- `RES 2,(HL)` CB 96, R254. -/
def execRes2IndHl (s : State) : Result := resOperand 2 .hlInd s

/-- `RES 3,B` CB 98, R254. -/
def execRes3B (s : State) : Result := resOperand 3 (.reg .b) s

/-- `RES 3,C` CB 99, R254. -/
def execRes3C (s : State) : Result := resOperand 3 (.reg .c) s

/-- `RES 3,D` CB 9A, R254. -/
def execRes3D (s : State) : Result := resOperand 3 (.reg .d) s

/-- `RES 3,E` CB 9B, R254. -/
def execRes3E (s : State) : Result := resOperand 3 (.reg .e) s

/-- `RES 3,H` CB 9C, R254. -/
def execRes3H (s : State) : Result := resOperand 3 (.reg .h) s

/-- `RES 3,L` CB 9D, R254. -/
def execRes3L (s : State) : Result := resOperand 3 (.reg .l) s

/-- `RES 3,A` CB 9F, R254. -/
def execRes3A (s : State) : Result := resOperand 3 (.reg .a) s

/-- `RES 3,(HL)` CB 9E, R254. -/
def execRes3IndHl (s : State) : Result := resOperand 3 .hlInd s

/-- `RES 4,B` CB A0, R254. -/
def execRes4B (s : State) : Result := resOperand 4 (.reg .b) s

/-- `RES 4,C` CB A1, R254. -/
def execRes4C (s : State) : Result := resOperand 4 (.reg .c) s

/-- `RES 4,D` CB A2, R254. -/
def execRes4D (s : State) : Result := resOperand 4 (.reg .d) s

/-- `RES 4,E` CB A3, R254. -/
def execRes4E (s : State) : Result := resOperand 4 (.reg .e) s

/-- `RES 4,H` CB A4, R254. -/
def execRes4H (s : State) : Result := resOperand 4 (.reg .h) s

/-- `RES 4,L` CB A5, R254. -/
def execRes4L (s : State) : Result := resOperand 4 (.reg .l) s

/-- `RES 4,A` CB A7, R254. -/
def execRes4A (s : State) : Result := resOperand 4 (.reg .a) s

/-- `RES 4,(HL)` CB A6, R254. -/
def execRes4IndHl (s : State) : Result := resOperand 4 .hlInd s

/-- `RES 5,B` CB A8, R254. -/
def execRes5B (s : State) : Result := resOperand 5 (.reg .b) s

/-- `RES 5,C` CB A9, R254. -/
def execRes5C (s : State) : Result := resOperand 5 (.reg .c) s

/-- `RES 5,D` CB AA, R254. -/
def execRes5D (s : State) : Result := resOperand 5 (.reg .d) s

/-- `RES 5,E` CB AB, R254. -/
def execRes5E (s : State) : Result := resOperand 5 (.reg .e) s

/-- `RES 5,H` CB AC, R254. -/
def execRes5H (s : State) : Result := resOperand 5 (.reg .h) s

/-- `RES 5,L` CB AD, R254. -/
def execRes5L (s : State) : Result := resOperand 5 (.reg .l) s

/-- `RES 5,A` CB AF, R254. -/
def execRes5A (s : State) : Result := resOperand 5 (.reg .a) s

/-- `RES 5,(HL)` CB AE, R254. -/
def execRes5IndHl (s : State) : Result := resOperand 5 .hlInd s

/-- `RES 6,B` CB B0, R254. -/
def execRes6B (s : State) : Result := resOperand 6 (.reg .b) s

/-- `RES 6,C` CB B1, R254. -/
def execRes6C (s : State) : Result := resOperand 6 (.reg .c) s

/-- `RES 6,D` CB B2, R254. -/
def execRes6D (s : State) : Result := resOperand 6 (.reg .d) s

/-- `RES 6,E` CB B3, R254. -/
def execRes6E (s : State) : Result := resOperand 6 (.reg .e) s

/-- `RES 6,H` CB B4, R254. -/
def execRes6H (s : State) : Result := resOperand 6 (.reg .h) s

/-- `RES 6,L` CB B5, R254. -/
def execRes6L (s : State) : Result := resOperand 6 (.reg .l) s

/-- `RES 6,A` CB B7, R254. -/
def execRes6A (s : State) : Result := resOperand 6 (.reg .a) s

/-- `RES 6,(HL)` CB B6, R254. -/
def execRes6IndHl (s : State) : Result := resOperand 6 .hlInd s

/-- `RES 7,B` CB B8, R254. -/
def execRes7B (s : State) : Result := resOperand 7 (.reg .b) s

/-- `RES 7,C` CB B9, R254. -/
def execRes7C (s : State) : Result := resOperand 7 (.reg .c) s

/-- `RES 7,D` CB BA, R254. -/
def execRes7D (s : State) : Result := resOperand 7 (.reg .d) s

/-- `RES 7,E` CB BB, R254. -/
def execRes7E (s : State) : Result := resOperand 7 (.reg .e) s

/-- `RES 7,H` CB BC, R254. -/
def execRes7H (s : State) : Result := resOperand 7 (.reg .h) s

/-- `RES 7,L` CB BD, R254. -/
def execRes7L (s : State) : Result := resOperand 7 (.reg .l) s

/-- `RES 7,A` CB BF, R254. -/
def execRes7A (s : State) : Result := resOperand 7 (.reg .a) s

/-- `RES 7,(HL)` CB BE, R254. -/
def execRes7IndHl (s : State) : Result := resOperand 7 .hlInd s

/-- `SET 0,B` CB C0, R255. -/
def execSet0B (s : State) : Result := setOperand 0 (.reg .b) s

/-- `SET 0,C` CB C1, R255. -/
def execSet0C (s : State) : Result := setOperand 0 (.reg .c) s

/-- `SET 0,D` CB C2, R255. -/
def execSet0D (s : State) : Result := setOperand 0 (.reg .d) s

/-- `SET 0,E` CB C3, R255. -/
def execSet0E (s : State) : Result := setOperand 0 (.reg .e) s

/-- `SET 0,H` CB C4, R255. -/
def execSet0H (s : State) : Result := setOperand 0 (.reg .h) s

/-- `SET 0,L` CB C5, R255. -/
def execSet0L (s : State) : Result := setOperand 0 (.reg .l) s

/-- `SET 0,A` CB C7, R255. -/
def execSet0A (s : State) : Result := setOperand 0 (.reg .a) s

/-- `SET 0,(HL)` CB C6, R255. -/
def execSet0IndHl (s : State) : Result := setOperand 0 .hlInd s

/-- `SET 1,B` CB C8, R255. -/
def execSet1B (s : State) : Result := setOperand 1 (.reg .b) s

/-- `SET 1,C` CB C9, R255. -/
def execSet1C (s : State) : Result := setOperand 1 (.reg .c) s

/-- `SET 1,D` CB CA, R255. -/
def execSet1D (s : State) : Result := setOperand 1 (.reg .d) s

/-- `SET 1,E` CB CB, R255. -/
def execSet1E (s : State) : Result := setOperand 1 (.reg .e) s

/-- `SET 1,H` CB CC, R255. -/
def execSet1H (s : State) : Result := setOperand 1 (.reg .h) s

/-- `SET 1,L` CB CD, R255. -/
def execSet1L (s : State) : Result := setOperand 1 (.reg .l) s

/-- `SET 1,A` CB CF, R255. -/
def execSet1A (s : State) : Result := setOperand 1 (.reg .a) s

/-- `SET 1,(HL)` CB CE, R255. -/
def execSet1IndHl (s : State) : Result := setOperand 1 .hlInd s

/-- `SET 2,B` CB D0, R255. -/
def execSet2B (s : State) : Result := setOperand 2 (.reg .b) s

/-- `SET 2,C` CB D1, R255. -/
def execSet2C (s : State) : Result := setOperand 2 (.reg .c) s

/-- `SET 2,D` CB D2, R255. -/
def execSet2D (s : State) : Result := setOperand 2 (.reg .d) s

/-- `SET 2,E` CB D3, R255. -/
def execSet2E (s : State) : Result := setOperand 2 (.reg .e) s

/-- `SET 2,H` CB D4, R255. -/
def execSet2H (s : State) : Result := setOperand 2 (.reg .h) s

/-- `SET 2,L` CB D5, R255. -/
def execSet2L (s : State) : Result := setOperand 2 (.reg .l) s

/-- `SET 2,A` CB D7, R255. -/
def execSet2A (s : State) : Result := setOperand 2 (.reg .a) s

/-- `SET 2,(HL)` CB D6, R255. -/
def execSet2IndHl (s : State) : Result := setOperand 2 .hlInd s

/-- `SET 3,B` CB D8, R255. -/
def execSet3B (s : State) : Result := setOperand 3 (.reg .b) s

/-- `SET 3,C` CB D9, R255. -/
def execSet3C (s : State) : Result := setOperand 3 (.reg .c) s

/-- `SET 3,D` CB DA, R255. -/
def execSet3D (s : State) : Result := setOperand 3 (.reg .d) s

/-- `SET 3,E` CB DB, R255. -/
def execSet3E (s : State) : Result := setOperand 3 (.reg .e) s

/-- `SET 3,H` CB DC, R255. -/
def execSet3H (s : State) : Result := setOperand 3 (.reg .h) s

/-- `SET 3,L` CB DD, R255. -/
def execSet3L (s : State) : Result := setOperand 3 (.reg .l) s

/-- `SET 3,A` CB DF, R255. -/
def execSet3A (s : State) : Result := setOperand 3 (.reg .a) s

/-- `SET 3,(HL)` CB DE, R255. -/
def execSet3IndHl (s : State) : Result := setOperand 3 .hlInd s

/-- `SET 4,B` CB E0, R255. -/
def execSet4B (s : State) : Result := setOperand 4 (.reg .b) s

/-- `SET 4,C` CB E1, R255. -/
def execSet4C (s : State) : Result := setOperand 4 (.reg .c) s

/-- `SET 4,D` CB E2, R255. -/
def execSet4D (s : State) : Result := setOperand 4 (.reg .d) s

/-- `SET 4,E` CB E3, R255. -/
def execSet4E (s : State) : Result := setOperand 4 (.reg .e) s

/-- `SET 4,H` CB E4, R255. -/
def execSet4H (s : State) : Result := setOperand 4 (.reg .h) s

/-- `SET 4,L` CB E5, R255. -/
def execSet4L (s : State) : Result := setOperand 4 (.reg .l) s

/-- `SET 4,A` CB E7, R255. -/
def execSet4A (s : State) : Result := setOperand 4 (.reg .a) s

/-- `SET 4,(HL)` CB E6, R255. -/
def execSet4IndHl (s : State) : Result := setOperand 4 .hlInd s

/-- `SET 5,B` CB E8, R255. -/
def execSet5B (s : State) : Result := setOperand 5 (.reg .b) s

/-- `SET 5,C` CB E9, R255. -/
def execSet5C (s : State) : Result := setOperand 5 (.reg .c) s

/-- `SET 5,D` CB EA, R255. -/
def execSet5D (s : State) : Result := setOperand 5 (.reg .d) s

/-- `SET 5,E` CB EB, R255. -/
def execSet5E (s : State) : Result := setOperand 5 (.reg .e) s

/-- `SET 5,H` CB EC, R255. -/
def execSet5H (s : State) : Result := setOperand 5 (.reg .h) s

/-- `SET 5,L` CB ED, R255. -/
def execSet5L (s : State) : Result := setOperand 5 (.reg .l) s

/-- `SET 5,A` CB EF, R255. -/
def execSet5A (s : State) : Result := setOperand 5 (.reg .a) s

/-- `SET 5,(HL)` CB EE, R255. -/
def execSet5IndHl (s : State) : Result := setOperand 5 .hlInd s

/-- `SET 6,B` CB F0, R255. -/
def execSet6B (s : State) : Result := setOperand 6 (.reg .b) s

/-- `SET 6,C` CB F1, R255. -/
def execSet6C (s : State) : Result := setOperand 6 (.reg .c) s

/-- `SET 6,D` CB F2, R255. -/
def execSet6D (s : State) : Result := setOperand 6 (.reg .d) s

/-- `SET 6,E` CB F3, R255. -/
def execSet6E (s : State) : Result := setOperand 6 (.reg .e) s

/-- `SET 6,H` CB F4, R255. -/
def execSet6H (s : State) : Result := setOperand 6 (.reg .h) s

/-- `SET 6,L` CB F5, R255. -/
def execSet6L (s : State) : Result := setOperand 6 (.reg .l) s

/-- `SET 6,A` CB F7, R255. -/
def execSet6A (s : State) : Result := setOperand 6 (.reg .a) s

/-- `SET 6,(HL)` CB F6, R255. -/
def execSet6IndHl (s : State) : Result := setOperand 6 .hlInd s

/-- `SET 7,B` CB F8, R255. -/
def execSet7B (s : State) : Result := setOperand 7 (.reg .b) s

/-- `SET 7,C` CB F9, R255. -/
def execSet7C (s : State) : Result := setOperand 7 (.reg .c) s

/-- `SET 7,D` CB FA, R255. -/
def execSet7D (s : State) : Result := setOperand 7 (.reg .d) s

/-- `SET 7,E` CB FB, R255. -/
def execSet7E (s : State) : Result := setOperand 7 (.reg .e) s

/-- `SET 7,H` CB FC, R255. -/
def execSet7H (s : State) : Result := setOperand 7 (.reg .h) s

/-- `SET 7,L` CB FD, R255. -/
def execSet7L (s : State) : Result := setOperand 7 (.reg .l) s

/-- `SET 7,A` CB FF, R255. -/
def execSet7A (s : State) : Result := setOperand 7 (.reg .a) s

/-- `SET 7,(HL)` CB FE, R255. -/
def execSet7IndHl (s : State) : Result := setOperand 7 .hlInd s

/-- `PREFIX CB` CB, R295. The prefix entry with the byte after it: it dispatches entry `xop` of
the extended table and charges that entry's cost (R120), here by the fields of `xop` (R128, log 7). -/
def execPrefixCb (xop : Byte) (s : State) : Result :=
  match fieldX xop with
  | 0 => rotOperand (rotOf (fieldY xop)) (r8Of (fieldZ xop)) s
  | 1 => bitOperand (fieldY xop) (r8Of (fieldZ xop)) s
  | 2 => resOperand (fieldY xop) (r8Of (fieldZ xop)) s
  | 3 => setOperand (fieldY xop) (r8Of (fieldZ xop)) s

end Sys2Proof.Machine
end

