-- ==== Sys2Proof/Machine/Fetch.lean ====
section
/-! DEFINITION. The start and the end of a step around the dispatch (60_exceptions.md R317, R327, R331), the fetch, and the placing
of an instruction where the next step fetches it. -/
namespace Sys2Proof.Machine

/-- Fetch the instruction at `PC` through the memory controller and move `PC` past it (00_scope.md R8, 10_state.md R25,
20_memory.md R88). Reads have no side effect, so the bytes after a short instruction are looked at without being fetched
(R85, log 11). -/
def State.fetchInstr (s : State) : Instr × State :=
  let b0 := s.memRead s.pc
  (decodeBytes b0 (s.memRead (s.pc + 1)) (s.memRead (s.pc + 2)), { s with pc := s.pc + BitVec.ofNat 16 (instrLength b0) })

/-- How a step begins. -/
inductive StepStart where
  /-- the core has no step (R331) -/
  | stuck (mode : Mode)
  /-- an interrupt is taken and no instruction is fetched; `after` is the state after the entry -/
  | interrupt (after : State)
  /-- an instruction is fetched; `fetched` has `PC` past it -/
  | execute (i : Instr) (fetched : State)

/-- The precondition and the interrupt check of `CoreStep`, then the fetch (R317, R320). -/
def State.beginStep (s : State) : StepStart :=
  match s.mode with
  | .halted => .stuck .halted
  | .stopped => .stuck .stopped
  | .running =>
    match s.pendingInterrupt with
    | some i => .interrupt ((s.interruptEntry i).charge s.params.intEntryCycles)
    | none => .execute s.fetchInstr.1 s.fetchInstr.2

/-- What the machine step adds to the outcome of the core's (R327); a step that faults advances no timer. -/
def State.finishStep (before : State) (r : Result) : Result :=
  match r with
  | .next after => .next (before.endStep after)
  | .fault f => .fault f
  | .refused q => .refused q

/-- An address whose byte lies in a memory, not in a hardware register or in no store at all. -/
def State.inMemory (s : State) (a : Word) : Bool :=
  match decodeAddr s.bootEnabled a with
  | .bootOverlay | .rom | .ram | .oam | .hram => true
  | .register _ | .unmapped => false

/-- Put a byte into the memory that answers a read of `a`, the two ROMs among them: the choice of the arguments, not a step (as a
loader does before the first step, R90, log 3). -/
def State.placeByte (s : State) (a : Word) (v : Byte) : State :=
  match decodeAddr s.bootEnabled a with
  | .bootOverlay => { s with params := { s.params with bootRom := s.params.bootRom.set a.toNat v } }
  | .rom => { s with params := { s.params with rom := s.params.rom.set a.toNat v } }
  | .ram | .oam | .hram => { s with mem := s.mem.set a.toNat v }
  | .register _ | .unmapped => s

/-- Put bytes at consecutive addresses. -/
def State.placeBytes (s : State) (a : Word) (bytes : List Byte) : State :=
  match bytes with
  | [] => s
  | v :: rest => (s.placeByte a v).placeBytes (a + 1) rest

/-- Place the three bytes of an instruction so that the very next step fetches and runs it (log 3): at `PC` where the three
addresses lie in memory, else at 0xC000 with `PC` moved there; the core is made Running, and `IME` is cleared if the step would
take an interrupt first. -/
def State.placeInstr (s : State) (bytes : List Byte) : State :=
  let at0 := if s.inMemory s.pc ∧ s.inMemory (s.pc + 1) ∧ s.inMemory (s.pc + 2) then s.pc else 0xC000#16
  let ready := { s with pc := at0, mode := .running, ime := if s.pendingInterrupt.isSome then false else s.ime }
  ready.placeBytes at0 bytes

end Sys2Proof.Machine
end

