-- ==== Sys2Proof/Machine/Step.lean ====
section
/-! DEFINITION. The machine step (60_exceptions.md R317, R327) and the placing of an instruction for the next step. -/
namespace Sys2Proof.Machine

/-- `MachineStep`: at most one interrupt entry or one instruction, then the timer advance by its cost (R317, R327). The host does
nothing between steps (log 14). When `mode` is not Running there is no step (R331, log 5). -/
def step (s : State) : Host.Outcome State Fault Refusal :=
  match s.beginStep with
  | .stuck mode => .fault (.noStep mode)
  | .interrupt after => s.finishStep (.next after)
  | .execute i fetched => s.finishStep (exec i fetched)

/-- `s` with the instruction of a row's bits where `step` fetches its next instruction (log 3, log 8). -/
def State.withFetchWord (s : State) (nbits w : Nat) : State := s.placeInstr (tableBytes nbits w)

end Sys2Proof.Machine
end

