-- ==== Sys2Proof/Machine/Descriptor.lean ====
section
/-! DEFINITION. The opcode descriptors of both tables (30_encoding.md R123), the declared cycle costs (R129, 70_reset_and_hazards.md
R365) and disassembly (R125). The rows are spec/opcode_table.json's. No step reads them: a meaning charges its own cost. -/
namespace Sys2Proof.Machine

/-- An opcode descriptor, "immutable descriptor" (R123). The mnemonic template is
held as the text before the operand placeholder and, where there is one, the text after it. The human description is not in the
source; the handler is the arm of `exec`. -/
structure Descriptor where
  code : Byte
  /-- the template up to its placeholder `n` or `nn` -/
  head : String
  /-- the template after its placeholder, none where it has none -/
  tail : Option String
  /-- operand width, 0, 1 or 2 -/
  width : Nat
  /-- base cycle cost, none on the removed entries and on the prefix entry (R130) -/
  cycles : Option Nat
  /-- cost when taken, for conditional transfers (R129) -/
  cyclesTaken : Option Nat
  deriving DecidableEq, Repr

/-- A row of a table. -/
def descriptor (code : Byte) (head : String) (tail : Option String) (width : Nat) (cycles cyclesTaken : Option Nat) : Descriptor :=
  { code := code, head := head, tail := tail, width := width, cycles := cycles, cyclesTaken := cyclesTaken }

/-- The primary table, bytes 0x00 to 0x0F. -/
def primaryTable0 : List Descriptor :=
  [descriptor 0x00 "NOP" (none) 0 (some 4) (none),
   descriptor 0x01 "LD BC," (some "") 2 (some 12) (none),
   descriptor 0x02 "LD (BC),A" (none) 0 (some 8) (none),
   descriptor 0x03 "INC BC" (none) 0 (some 8) (none),
   descriptor 0x04 "INC B" (none) 0 (some 4) (none),
   descriptor 0x05 "DEC B" (none) 0 (some 4) (none),
   descriptor 0x06 "LD B," (some "") 1 (some 8) (none),
   descriptor 0x07 "RLCA" (none) 0 (some 4) (none),
   descriptor 0x08 "LD (" (some "),SP") 2 (some 20) (none),
   descriptor 0x09 "ADD HL,BC" (none) 0 (some 8) (none),
   descriptor 0x0A "LD A,(BC)" (none) 0 (some 8) (none),
   descriptor 0x0B "DEC BC" (none) 0 (some 8) (none),
   descriptor 0x0C "INC C" (none) 0 (some 4) (none),
   descriptor 0x0D "DEC C" (none) 0 (some 4) (none),
   descriptor 0x0E "LD C," (some "") 1 (some 8) (none),
   descriptor 0x0F "RRCA" (none) 0 (some 4) (none)]

/-- The primary table, bytes 0x10 to 0x1F. -/
def primaryTable1 : List Descriptor :=
  [descriptor 0x10 "STOP" (none) 1 (some 4) (none),
   descriptor 0x11 "LD DE," (some "") 2 (some 12) (none),
   descriptor 0x12 "LD (DE),A" (none) 0 (some 8) (none),
   descriptor 0x13 "INC DE" (none) 0 (some 8) (none),
   descriptor 0x14 "INC D" (none) 0 (some 4) (none),
   descriptor 0x15 "DEC D" (none) 0 (some 4) (none),
   descriptor 0x16 "LD D," (some "") 1 (some 8) (none),
   descriptor 0x17 "RLA" (none) 0 (some 4) (none),
   descriptor 0x18 "JR " (some "") 1 (some 12) (none),
   descriptor 0x19 "ADD HL,DE" (none) 0 (some 8) (none),
   descriptor 0x1A "LD A,(DE)" (none) 0 (some 8) (none),
   descriptor 0x1B "DEC DE" (none) 0 (some 8) (none),
   descriptor 0x1C "INC E" (none) 0 (some 4) (none),
   descriptor 0x1D "DEC E" (none) 0 (some 4) (none),
   descriptor 0x1E "LD E," (some "") 1 (some 8) (none),
   descriptor 0x1F "RRA" (none) 0 (some 4) (none)]

/-- The primary table, bytes 0x20 to 0x2F. -/
def primaryTable2 : List Descriptor :=
  [descriptor 0x20 "JR NZ," (some "") 1 (some 8) (some 12),
   descriptor 0x21 "LD HL," (some "") 2 (some 12) (none),
   descriptor 0x22 "LD (HL+),A" (none) 0 (some 8) (none),
   descriptor 0x23 "INC HL" (none) 0 (some 8) (none),
   descriptor 0x24 "INC H" (none) 0 (some 4) (none),
   descriptor 0x25 "DEC H" (none) 0 (some 4) (none),
   descriptor 0x26 "LD H," (some "") 1 (some 8) (none),
   descriptor 0x27 "DAA" (none) 0 (some 4) (none),
   descriptor 0x28 "JR Z," (some "") 1 (some 8) (some 12),
   descriptor 0x29 "ADD HL,HL" (none) 0 (some 8) (none),
   descriptor 0x2A "LD A,(HL+)" (none) 0 (some 8) (none),
   descriptor 0x2B "DEC HL" (none) 0 (some 8) (none),
   descriptor 0x2C "INC L" (none) 0 (some 4) (none),
   descriptor 0x2D "DEC L" (none) 0 (some 4) (none),
   descriptor 0x2E "LD L," (some "") 1 (some 8) (none),
   descriptor 0x2F "CPL" (none) 0 (some 4) (none)]

/-- The primary table, bytes 0x30 to 0x3F. -/
def primaryTable3 : List Descriptor :=
  [descriptor 0x30 "JR NC," (some "") 1 (some 8) (some 12),
   descriptor 0x31 "LD SP," (some "") 2 (some 12) (none),
   descriptor 0x32 "LD (HL-),A" (none) 0 (some 8) (none),
   descriptor 0x33 "INC SP" (none) 0 (some 8) (none),
   descriptor 0x34 "INC (HL)" (none) 0 (some 12) (none),
   descriptor 0x35 "DEC (HL)" (none) 0 (some 12) (none),
   descriptor 0x36 "LD (HL)," (some "") 1 (some 12) (none),
   descriptor 0x37 "SCF" (none) 0 (some 4) (none),
   descriptor 0x38 "JR C," (some "") 1 (some 8) (some 12),
   descriptor 0x39 "ADD HL,SP" (none) 0 (some 8) (none),
   descriptor 0x3A "LD A,(HL-)" (none) 0 (some 8) (none),
   descriptor 0x3B "DEC SP" (none) 0 (some 8) (none),
   descriptor 0x3C "INC A" (none) 0 (some 4) (none),
   descriptor 0x3D "DEC A" (none) 0 (some 4) (none),
   descriptor 0x3E "LD A," (some "") 1 (some 8) (none),
   descriptor 0x3F "CCF" (none) 0 (some 4) (none)]

/-- The primary table, bytes 0x40 to 0x4F. -/
def primaryTable4 : List Descriptor :=
  [descriptor 0x40 "LD B,B" (none) 0 (some 4) (none),
   descriptor 0x41 "LD B,C" (none) 0 (some 4) (none),
   descriptor 0x42 "LD B,D" (none) 0 (some 4) (none),
   descriptor 0x43 "LD B,E" (none) 0 (some 4) (none),
   descriptor 0x44 "LD B,H" (none) 0 (some 4) (none),
   descriptor 0x45 "LD B,L" (none) 0 (some 4) (none),
   descriptor 0x46 "LD B,(HL)" (none) 0 (some 8) (none),
   descriptor 0x47 "LD B,A" (none) 0 (some 4) (none),
   descriptor 0x48 "LD C,B" (none) 0 (some 4) (none),
   descriptor 0x49 "LD C,C" (none) 0 (some 4) (none),
   descriptor 0x4A "LD C,D" (none) 0 (some 4) (none),
   descriptor 0x4B "LD C,E" (none) 0 (some 4) (none),
   descriptor 0x4C "LD C,H" (none) 0 (some 4) (none),
   descriptor 0x4D "LD C,L" (none) 0 (some 4) (none),
   descriptor 0x4E "LD C,(HL)" (none) 0 (some 8) (none),
   descriptor 0x4F "LD C,A" (none) 0 (some 4) (none)]

/-- The primary table, bytes 0x50 to 0x5F. -/
def primaryTable5 : List Descriptor :=
  [descriptor 0x50 "LD D,B" (none) 0 (some 4) (none),
   descriptor 0x51 "LD D,C" (none) 0 (some 4) (none),
   descriptor 0x52 "LD D,D" (none) 0 (some 4) (none),
   descriptor 0x53 "LD D,E" (none) 0 (some 4) (none),
   descriptor 0x54 "LD D,H" (none) 0 (some 4) (none),
   descriptor 0x55 "LD D,L" (none) 0 (some 4) (none),
   descriptor 0x56 "LD D,(HL)" (none) 0 (some 8) (none),
   descriptor 0x57 "LD D,A" (none) 0 (some 4) (none),
   descriptor 0x58 "LD E,B" (none) 0 (some 4) (none),
   descriptor 0x59 "LD E,C" (none) 0 (some 4) (none),
   descriptor 0x5A "LD E,D" (none) 0 (some 4) (none),
   descriptor 0x5B "LD E,E" (none) 0 (some 4) (none),
   descriptor 0x5C "LD E,H" (none) 0 (some 4) (none),
   descriptor 0x5D "LD E,L" (none) 0 (some 4) (none),
   descriptor 0x5E "LD E,(HL)" (none) 0 (some 8) (none),
   descriptor 0x5F "LD E,A" (none) 0 (some 4) (none)]

/-- The primary table, bytes 0x60 to 0x6F. -/
def primaryTable6 : List Descriptor :=
  [descriptor 0x60 "LD H,B" (none) 0 (some 4) (none),
   descriptor 0x61 "LD H,C" (none) 0 (some 4) (none),
   descriptor 0x62 "LD H,D" (none) 0 (some 4) (none),
   descriptor 0x63 "LD H,E" (none) 0 (some 4) (none),
   descriptor 0x64 "LD H,H" (none) 0 (some 4) (none),
   descriptor 0x65 "LD H,L" (none) 0 (some 4) (none),
   descriptor 0x66 "LD H,(HL)" (none) 0 (some 8) (none),
   descriptor 0x67 "LD H,A" (none) 0 (some 4) (none),
   descriptor 0x68 "LD L,B" (none) 0 (some 4) (none),
   descriptor 0x69 "LD L,C" (none) 0 (some 4) (none),
   descriptor 0x6A "LD L,D" (none) 0 (some 4) (none),
   descriptor 0x6B "LD L,E" (none) 0 (some 4) (none),
   descriptor 0x6C "LD L,H" (none) 0 (some 4) (none),
   descriptor 0x6D "LD L,L" (none) 0 (some 4) (none),
   descriptor 0x6E "LD L,(HL)" (none) 0 (some 8) (none),
   descriptor 0x6F "LD L,A" (none) 0 (some 4) (none)]

/-- The primary table, bytes 0x70 to 0x7F. -/
def primaryTable7 : List Descriptor :=
  [descriptor 0x70 "LD (HL),B" (none) 0 (some 8) (none),
   descriptor 0x71 "LD (HL),C" (none) 0 (some 8) (none),
   descriptor 0x72 "LD (HL),D" (none) 0 (some 8) (none),
   descriptor 0x73 "LD (HL),E" (none) 0 (some 8) (none),
   descriptor 0x74 "LD (HL),H" (none) 0 (some 8) (none),
   descriptor 0x75 "LD (HL),L" (none) 0 (some 8) (none),
   descriptor 0x76 "HALT" (none) 0 (some 4) (none),
   descriptor 0x77 "LD (HL),A" (none) 0 (some 8) (none),
   descriptor 0x78 "LD A,B" (none) 0 (some 4) (none),
   descriptor 0x79 "LD A,C" (none) 0 (some 4) (none),
   descriptor 0x7A "LD A,D" (none) 0 (some 4) (none),
   descriptor 0x7B "LD A,E" (none) 0 (some 4) (none),
   descriptor 0x7C "LD A,H" (none) 0 (some 4) (none),
   descriptor 0x7D "LD A,L" (none) 0 (some 4) (none),
   descriptor 0x7E "LD A,(HL)" (none) 0 (some 8) (none),
   descriptor 0x7F "LD A,A" (none) 0 (some 4) (none)]

/-- The primary table, bytes 0x80 to 0x8F. -/
def primaryTable8 : List Descriptor :=
  [descriptor 0x80 "ADD A,B" (none) 0 (some 4) (none),
   descriptor 0x81 "ADD A,C" (none) 0 (some 4) (none),
   descriptor 0x82 "ADD A,D" (none) 0 (some 4) (none),
   descriptor 0x83 "ADD A,E" (none) 0 (some 4) (none),
   descriptor 0x84 "ADD A,H" (none) 0 (some 4) (none),
   descriptor 0x85 "ADD A,L" (none) 0 (some 4) (none),
   descriptor 0x86 "ADD A,(HL)" (none) 0 (some 8) (none),
   descriptor 0x87 "ADD A,A" (none) 0 (some 4) (none),
   descriptor 0x88 "ADC A,B" (none) 0 (some 4) (none),
   descriptor 0x89 "ADC A,C" (none) 0 (some 4) (none),
   descriptor 0x8A "ADC A,D" (none) 0 (some 4) (none),
   descriptor 0x8B "ADC A,E" (none) 0 (some 4) (none),
   descriptor 0x8C "ADC A,H" (none) 0 (some 4) (none),
   descriptor 0x8D "ADC A,L" (none) 0 (some 4) (none),
   descriptor 0x8E "ADC A,(HL)" (none) 0 (some 8) (none),
   descriptor 0x8F "ADC A,A" (none) 0 (some 4) (none)]

/-- The primary table, bytes 0x90 to 0x9F. -/
def primaryTable9 : List Descriptor :=
  [descriptor 0x90 "SUB A,B" (none) 0 (some 4) (none),
   descriptor 0x91 "SUB A,C" (none) 0 (some 4) (none),
   descriptor 0x92 "SUB A,D" (none) 0 (some 4) (none),
   descriptor 0x93 "SUB A,E" (none) 0 (some 4) (none),
   descriptor 0x94 "SUB A,H" (none) 0 (some 4) (none),
   descriptor 0x95 "SUB A,L" (none) 0 (some 4) (none),
   descriptor 0x96 "SUB A,(HL)" (none) 0 (some 8) (none),
   descriptor 0x97 "SUB A,A" (none) 0 (some 4) (none),
   descriptor 0x98 "SBC A,B" (none) 0 (some 4) (none),
   descriptor 0x99 "SBC A,C" (none) 0 (some 4) (none),
   descriptor 0x9A "SBC A,D" (none) 0 (some 4) (none),
   descriptor 0x9B "SBC A,E" (none) 0 (some 4) (none),
   descriptor 0x9C "SBC A,H" (none) 0 (some 4) (none),
   descriptor 0x9D "SBC A,L" (none) 0 (some 4) (none),
   descriptor 0x9E "SBC A,(HL)" (none) 0 (some 8) (none),
   descriptor 0x9F "SBC A,A" (none) 0 (some 4) (none)]

/-- The primary table, bytes 0xA0 to 0xAF. -/
def primaryTableA : List Descriptor :=
  [descriptor 0xA0 "AND A,B" (none) 0 (some 4) (none),
   descriptor 0xA1 "AND A,C" (none) 0 (some 4) (none),
   descriptor 0xA2 "AND A,D" (none) 0 (some 4) (none),
   descriptor 0xA3 "AND A,E" (none) 0 (some 4) (none),
   descriptor 0xA4 "AND A,H" (none) 0 (some 4) (none),
   descriptor 0xA5 "AND A,L" (none) 0 (some 4) (none),
   descriptor 0xA6 "AND A,(HL)" (none) 0 (some 8) (none),
   descriptor 0xA7 "AND A,A" (none) 0 (some 4) (none),
   descriptor 0xA8 "XOR A,B" (none) 0 (some 4) (none),
   descriptor 0xA9 "XOR A,C" (none) 0 (some 4) (none),
   descriptor 0xAA "XOR A,D" (none) 0 (some 4) (none),
   descriptor 0xAB "XOR A,E" (none) 0 (some 4) (none),
   descriptor 0xAC "XOR A,H" (none) 0 (some 4) (none),
   descriptor 0xAD "XOR A,L" (none) 0 (some 4) (none),
   descriptor 0xAE "XOR A,(HL)" (none) 0 (some 8) (none),
   descriptor 0xAF "XOR A,A" (none) 0 (some 4) (none)]

/-- The primary table, bytes 0xB0 to 0xBF. -/
def primaryTableB : List Descriptor :=
  [descriptor 0xB0 "OR A,B" (none) 0 (some 4) (none),
   descriptor 0xB1 "OR A,C" (none) 0 (some 4) (none),
   descriptor 0xB2 "OR A,D" (none) 0 (some 4) (none),
   descriptor 0xB3 "OR A,E" (none) 0 (some 4) (none),
   descriptor 0xB4 "OR A,H" (none) 0 (some 4) (none),
   descriptor 0xB5 "OR A,L" (none) 0 (some 4) (none),
   descriptor 0xB6 "OR A,(HL)" (none) 0 (some 8) (none),
   descriptor 0xB7 "OR A,A" (none) 0 (some 4) (none),
   descriptor 0xB8 "CP A,B" (none) 0 (some 4) (none),
   descriptor 0xB9 "CP A,C" (none) 0 (some 4) (none),
   descriptor 0xBA "CP A,D" (none) 0 (some 4) (none),
   descriptor 0xBB "CP A,E" (none) 0 (some 4) (none),
   descriptor 0xBC "CP A,H" (none) 0 (some 4) (none),
   descriptor 0xBD "CP A,L" (none) 0 (some 4) (none),
   descriptor 0xBE "CP A,(HL)" (none) 0 (some 8) (none),
   descriptor 0xBF "CP A,A" (none) 0 (some 4) (none)]

/-- The primary table, bytes 0xC0 to 0xCF. -/
def primaryTableC : List Descriptor :=
  [descriptor 0xC0 "RET NZ" (none) 0 (some 8) (some 20),
   descriptor 0xC1 "POP BC" (none) 0 (some 12) (none),
   descriptor 0xC2 "JP NZ," (some "") 2 (some 12) (some 16),
   descriptor 0xC3 "JP " (some "") 2 (some 16) (none),
   descriptor 0xC4 "CALL NZ," (some "") 2 (some 12) (some 24),
   descriptor 0xC5 "PUSH BC" (none) 0 (some 16) (none),
   descriptor 0xC6 "ADD A," (some "") 1 (some 8) (none),
   descriptor 0xC7 "RST 0x00" (none) 0 (some 16) (none),
   descriptor 0xC8 "RET Z" (none) 0 (some 8) (some 20),
   descriptor 0xC9 "RET" (none) 0 (some 16) (none),
   descriptor 0xCA "JP Z," (some "") 2 (some 12) (some 16),
   descriptor 0xCB "PREFIX CB" (none) 0 (none) (none),
   descriptor 0xCC "CALL Z," (some "") 2 (some 12) (some 24),
   descriptor 0xCD "CALL " (some "") 2 (some 24) (none),
   descriptor 0xCE "ADC A," (some "") 1 (some 8) (none),
   descriptor 0xCF "RST 0x08" (none) 0 (some 16) (none)]

/-- The primary table, bytes 0xD0 to 0xDF. -/
def primaryTableD : List Descriptor :=
  [descriptor 0xD0 "RET NC" (none) 0 (some 8) (some 20),
   descriptor 0xD1 "POP DE" (none) 0 (some 12) (none),
   descriptor 0xD2 "JP NC," (some "") 2 (some 12) (some 16),
   descriptor 0xD3 "ILLEGAL" (none) 0 (none) (none),
   descriptor 0xD4 "CALL NC," (some "") 2 (some 12) (some 24),
   descriptor 0xD5 "PUSH DE" (none) 0 (some 16) (none),
   descriptor 0xD6 "SUB A," (some "") 1 (some 8) (none),
   descriptor 0xD7 "RST 0x10" (none) 0 (some 16) (none),
   descriptor 0xD8 "RET C" (none) 0 (some 8) (some 20),
   descriptor 0xD9 "RETI" (none) 0 (some 16) (none),
   descriptor 0xDA "JP C," (some "") 2 (some 12) (some 16),
   descriptor 0xDB "ILLEGAL" (none) 0 (none) (none),
   descriptor 0xDC "CALL C," (some "") 2 (some 12) (some 24),
   descriptor 0xDD "ILLEGAL" (none) 0 (none) (none),
   descriptor 0xDE "SBC A," (some "") 1 (some 8) (none),
   descriptor 0xDF "RST 0x18" (none) 0 (some 16) (none)]

/-- The primary table, bytes 0xE0 to 0xEF. -/
def primaryTableE : List Descriptor :=
  [descriptor 0xE0 "LDH (" (some "),A") 1 (some 12) (none),
   descriptor 0xE1 "POP HL" (none) 0 (some 12) (none),
   descriptor 0xE2 "LD (C),A" (none) 0 (some 8) (none),
   descriptor 0xE3 "ILLEGAL" (none) 0 (none) (none),
   descriptor 0xE4 "ILLEGAL" (none) 0 (none) (none),
   descriptor 0xE5 "PUSH HL" (none) 0 (some 16) (none),
   descriptor 0xE6 "AND A," (some "") 1 (some 8) (none),
   descriptor 0xE7 "RST 0x20" (none) 0 (some 16) (none),
   descriptor 0xE8 "ADD SP," (some "") 1 (some 16) (none),
   descriptor 0xE9 "JP HL" (none) 0 (some 4) (none),
   descriptor 0xEA "LD (" (some "),A") 2 (some 16) (none),
   descriptor 0xEB "ILLEGAL" (none) 0 (none) (none),
   descriptor 0xEC "ILLEGAL" (none) 0 (none) (none),
   descriptor 0xED "ILLEGAL" (none) 0 (none) (none),
   descriptor 0xEE "XOR A," (some "") 1 (some 8) (none),
   descriptor 0xEF "RST 0x28" (none) 0 (some 16) (none)]

/-- The primary table, bytes 0xF0 to 0xFF. -/
def primaryTableF : List Descriptor :=
  [descriptor 0xF0 "LDH A,(" (some ")") 1 (some 12) (none),
   descriptor 0xF1 "POP AF" (none) 0 (some 12) (none),
   descriptor 0xF2 "LD A,(C)" (none) 0 (some 8) (none),
   descriptor 0xF3 "DI" (none) 0 (some 4) (none),
   descriptor 0xF4 "ILLEGAL" (none) 0 (none) (none),
   descriptor 0xF5 "PUSH AF" (none) 0 (some 16) (none),
   descriptor 0xF6 "OR A," (some "") 1 (some 8) (none),
   descriptor 0xF7 "RST 0x30" (none) 0 (some 16) (none),
   descriptor 0xF8 "LD HL,SP+" (some "") 1 (some 12) (none),
   descriptor 0xF9 "LD SP,HL" (none) 0 (some 8) (none),
   descriptor 0xFA "LD A,(" (some ")") 2 (some 16) (none),
   descriptor 0xFB "EI" (none) 0 (some 4) (none),
   descriptor 0xFC "ILLEGAL" (none) 0 (none) (none),
   descriptor 0xFD "ILLEGAL" (none) 0 (none) (none),
   descriptor 0xFE "CP A," (some "") 1 (some 8) (none),
   descriptor 0xFF "RST 0x38" (none) 0 (some 16) (none)]

/-- The primary table: the descriptor of byte `b` is element `b` (R123). -/
def primaryTable : List Descriptor :=
  primaryTable0 ++ primaryTable1 ++ primaryTable2 ++ primaryTable3 ++ primaryTable4 ++ primaryTable5 ++ primaryTable6 ++ primaryTable7
    ++ primaryTable8 ++ primaryTable9 ++ primaryTableA ++ primaryTableB ++ primaryTableC ++ primaryTableD ++ primaryTableE ++ primaryTableF

/-- The extended table, bytes 0x00 to 0x0F. -/
def extendedTable0 : List Descriptor :=
  [descriptor 0x00 "RLC B" (none) 0 (some 8) (none),
   descriptor 0x01 "RLC C" (none) 0 (some 8) (none),
   descriptor 0x02 "RLC D" (none) 0 (some 8) (none),
   descriptor 0x03 "RLC E" (none) 0 (some 8) (none),
   descriptor 0x04 "RLC H" (none) 0 (some 8) (none),
   descriptor 0x05 "RLC L" (none) 0 (some 8) (none),
   descriptor 0x06 "RLC (HL)" (none) 0 (some 16) (none),
   descriptor 0x07 "RLC A" (none) 0 (some 8) (none),
   descriptor 0x08 "RRC B" (none) 0 (some 8) (none),
   descriptor 0x09 "RRC C" (none) 0 (some 8) (none),
   descriptor 0x0A "RRC D" (none) 0 (some 8) (none),
   descriptor 0x0B "RRC E" (none) 0 (some 8) (none),
   descriptor 0x0C "RRC H" (none) 0 (some 8) (none),
   descriptor 0x0D "RRC L" (none) 0 (some 8) (none),
   descriptor 0x0E "RRC (HL)" (none) 0 (some 16) (none),
   descriptor 0x0F "RRC A" (none) 0 (some 8) (none)]

/-- The extended table, bytes 0x10 to 0x1F. -/
def extendedTable1 : List Descriptor :=
  [descriptor 0x10 "RL B" (none) 0 (some 8) (none),
   descriptor 0x11 "RL C" (none) 0 (some 8) (none),
   descriptor 0x12 "RL D" (none) 0 (some 8) (none),
   descriptor 0x13 "RL E" (none) 0 (some 8) (none),
   descriptor 0x14 "RL H" (none) 0 (some 8) (none),
   descriptor 0x15 "RL L" (none) 0 (some 8) (none),
   descriptor 0x16 "RL (HL)" (none) 0 (some 16) (none),
   descriptor 0x17 "RL A" (none) 0 (some 8) (none),
   descriptor 0x18 "RR B" (none) 0 (some 8) (none),
   descriptor 0x19 "RR C" (none) 0 (some 8) (none),
   descriptor 0x1A "RR D" (none) 0 (some 8) (none),
   descriptor 0x1B "RR E" (none) 0 (some 8) (none),
   descriptor 0x1C "RR H" (none) 0 (some 8) (none),
   descriptor 0x1D "RR L" (none) 0 (some 8) (none),
   descriptor 0x1E "RR (HL)" (none) 0 (some 16) (none),
   descriptor 0x1F "RR A" (none) 0 (some 8) (none)]

/-- The extended table, bytes 0x20 to 0x2F. -/
def extendedTable2 : List Descriptor :=
  [descriptor 0x20 "SLA B" (none) 0 (some 8) (none),
   descriptor 0x21 "SLA C" (none) 0 (some 8) (none),
   descriptor 0x22 "SLA D" (none) 0 (some 8) (none),
   descriptor 0x23 "SLA E" (none) 0 (some 8) (none),
   descriptor 0x24 "SLA H" (none) 0 (some 8) (none),
   descriptor 0x25 "SLA L" (none) 0 (some 8) (none),
   descriptor 0x26 "SLA (HL)" (none) 0 (some 16) (none),
   descriptor 0x27 "SLA A" (none) 0 (some 8) (none),
   descriptor 0x28 "SRA B" (none) 0 (some 8) (none),
   descriptor 0x29 "SRA C" (none) 0 (some 8) (none),
   descriptor 0x2A "SRA D" (none) 0 (some 8) (none),
   descriptor 0x2B "SRA E" (none) 0 (some 8) (none),
   descriptor 0x2C "SRA H" (none) 0 (some 8) (none),
   descriptor 0x2D "SRA L" (none) 0 (some 8) (none),
   descriptor 0x2E "SRA (HL)" (none) 0 (some 16) (none),
   descriptor 0x2F "SRA A" (none) 0 (some 8) (none)]

/-- The extended table, bytes 0x30 to 0x3F. -/
def extendedTable3 : List Descriptor :=
  [descriptor 0x30 "SWAP B" (none) 0 (some 8) (none),
   descriptor 0x31 "SWAP C" (none) 0 (some 8) (none),
   descriptor 0x32 "SWAP D" (none) 0 (some 8) (none),
   descriptor 0x33 "SWAP E" (none) 0 (some 8) (none),
   descriptor 0x34 "SWAP H" (none) 0 (some 8) (none),
   descriptor 0x35 "SWAP L" (none) 0 (some 8) (none),
   descriptor 0x36 "SWAP (HL)" (none) 0 (some 16) (none),
   descriptor 0x37 "SWAP A" (none) 0 (some 8) (none),
   descriptor 0x38 "SRL B" (none) 0 (some 8) (none),
   descriptor 0x39 "SRL C" (none) 0 (some 8) (none),
   descriptor 0x3A "SRL D" (none) 0 (some 8) (none),
   descriptor 0x3B "SRL E" (none) 0 (some 8) (none),
   descriptor 0x3C "SRL H" (none) 0 (some 8) (none),
   descriptor 0x3D "SRL L" (none) 0 (some 8) (none),
   descriptor 0x3E "SRL (HL)" (none) 0 (some 16) (none),
   descriptor 0x3F "SRL A" (none) 0 (some 8) (none)]

/-- The extended table, bytes 0x40 to 0x4F. -/
def extendedTable4 : List Descriptor :=
  [descriptor 0x40 "BIT 0,B" (none) 0 (some 8) (none),
   descriptor 0x41 "BIT 0,C" (none) 0 (some 8) (none),
   descriptor 0x42 "BIT 0,D" (none) 0 (some 8) (none),
   descriptor 0x43 "BIT 0,E" (none) 0 (some 8) (none),
   descriptor 0x44 "BIT 0,H" (none) 0 (some 8) (none),
   descriptor 0x45 "BIT 0,L" (none) 0 (some 8) (none),
   descriptor 0x46 "BIT 0,(HL)" (none) 0 (some 12) (none),
   descriptor 0x47 "BIT 0,A" (none) 0 (some 8) (none),
   descriptor 0x48 "BIT 1,B" (none) 0 (some 8) (none),
   descriptor 0x49 "BIT 1,C" (none) 0 (some 8) (none),
   descriptor 0x4A "BIT 1,D" (none) 0 (some 8) (none),
   descriptor 0x4B "BIT 1,E" (none) 0 (some 8) (none),
   descriptor 0x4C "BIT 1,H" (none) 0 (some 8) (none),
   descriptor 0x4D "BIT 1,L" (none) 0 (some 8) (none),
   descriptor 0x4E "BIT 1,(HL)" (none) 0 (some 12) (none),
   descriptor 0x4F "BIT 1,A" (none) 0 (some 8) (none)]

/-- The extended table, bytes 0x50 to 0x5F. -/
def extendedTable5 : List Descriptor :=
  [descriptor 0x50 "BIT 2,B" (none) 0 (some 8) (none),
   descriptor 0x51 "BIT 2,C" (none) 0 (some 8) (none),
   descriptor 0x52 "BIT 2,D" (none) 0 (some 8) (none),
   descriptor 0x53 "BIT 2,E" (none) 0 (some 8) (none),
   descriptor 0x54 "BIT 2,H" (none) 0 (some 8) (none),
   descriptor 0x55 "BIT 2,L" (none) 0 (some 8) (none),
   descriptor 0x56 "BIT 2,(HL)" (none) 0 (some 12) (none),
   descriptor 0x57 "BIT 2,A" (none) 0 (some 8) (none),
   descriptor 0x58 "BIT 3,B" (none) 0 (some 8) (none),
   descriptor 0x59 "BIT 3,C" (none) 0 (some 8) (none),
   descriptor 0x5A "BIT 3,D" (none) 0 (some 8) (none),
   descriptor 0x5B "BIT 3,E" (none) 0 (some 8) (none),
   descriptor 0x5C "BIT 3,H" (none) 0 (some 8) (none),
   descriptor 0x5D "BIT 3,L" (none) 0 (some 8) (none),
   descriptor 0x5E "BIT 3,(HL)" (none) 0 (some 12) (none),
   descriptor 0x5F "BIT 3,A" (none) 0 (some 8) (none)]

/-- The extended table, bytes 0x60 to 0x6F. -/
def extendedTable6 : List Descriptor :=
  [descriptor 0x60 "BIT 4,B" (none) 0 (some 8) (none),
   descriptor 0x61 "BIT 4,C" (none) 0 (some 8) (none),
   descriptor 0x62 "BIT 4,D" (none) 0 (some 8) (none),
   descriptor 0x63 "BIT 4,E" (none) 0 (some 8) (none),
   descriptor 0x64 "BIT 4,H" (none) 0 (some 8) (none),
   descriptor 0x65 "BIT 4,L" (none) 0 (some 8) (none),
   descriptor 0x66 "BIT 4,(HL)" (none) 0 (some 12) (none),
   descriptor 0x67 "BIT 4,A" (none) 0 (some 8) (none),
   descriptor 0x68 "BIT 5,B" (none) 0 (some 8) (none),
   descriptor 0x69 "BIT 5,C" (none) 0 (some 8) (none),
   descriptor 0x6A "BIT 5,D" (none) 0 (some 8) (none),
   descriptor 0x6B "BIT 5,E" (none) 0 (some 8) (none),
   descriptor 0x6C "BIT 5,H" (none) 0 (some 8) (none),
   descriptor 0x6D "BIT 5,L" (none) 0 (some 8) (none),
   descriptor 0x6E "BIT 5,(HL)" (none) 0 (some 12) (none),
   descriptor 0x6F "BIT 5,A" (none) 0 (some 8) (none)]

/-- The extended table, bytes 0x70 to 0x7F. -/
def extendedTable7 : List Descriptor :=
  [descriptor 0x70 "BIT 6,B" (none) 0 (some 8) (none),
   descriptor 0x71 "BIT 6,C" (none) 0 (some 8) (none),
   descriptor 0x72 "BIT 6,D" (none) 0 (some 8) (none),
   descriptor 0x73 "BIT 6,E" (none) 0 (some 8) (none),
   descriptor 0x74 "BIT 6,H" (none) 0 (some 8) (none),
   descriptor 0x75 "BIT 6,L" (none) 0 (some 8) (none),
   descriptor 0x76 "BIT 6,(HL)" (none) 0 (some 12) (none),
   descriptor 0x77 "BIT 6,A" (none) 0 (some 8) (none),
   descriptor 0x78 "BIT 7,B" (none) 0 (some 8) (none),
   descriptor 0x79 "BIT 7,C" (none) 0 (some 8) (none),
   descriptor 0x7A "BIT 7,D" (none) 0 (some 8) (none),
   descriptor 0x7B "BIT 7,E" (none) 0 (some 8) (none),
   descriptor 0x7C "BIT 7,H" (none) 0 (some 8) (none),
   descriptor 0x7D "BIT 7,L" (none) 0 (some 8) (none),
   descriptor 0x7E "BIT 7,(HL)" (none) 0 (some 12) (none),
   descriptor 0x7F "BIT 7,A" (none) 0 (some 8) (none)]

/-- The extended table, bytes 0x80 to 0x8F. -/
def extendedTable8 : List Descriptor :=
  [descriptor 0x80 "RES 0,B" (none) 0 (some 8) (none),
   descriptor 0x81 "RES 0,C" (none) 0 (some 8) (none),
   descriptor 0x82 "RES 0,D" (none) 0 (some 8) (none),
   descriptor 0x83 "RES 0,E" (none) 0 (some 8) (none),
   descriptor 0x84 "RES 0,H" (none) 0 (some 8) (none),
   descriptor 0x85 "RES 0,L" (none) 0 (some 8) (none),
   descriptor 0x86 "RES 0,(HL)" (none) 0 (some 16) (none),
   descriptor 0x87 "RES 0,A" (none) 0 (some 8) (none),
   descriptor 0x88 "RES 1,B" (none) 0 (some 8) (none),
   descriptor 0x89 "RES 1,C" (none) 0 (some 8) (none),
   descriptor 0x8A "RES 1,D" (none) 0 (some 8) (none),
   descriptor 0x8B "RES 1,E" (none) 0 (some 8) (none),
   descriptor 0x8C "RES 1,H" (none) 0 (some 8) (none),
   descriptor 0x8D "RES 1,L" (none) 0 (some 8) (none),
   descriptor 0x8E "RES 1,(HL)" (none) 0 (some 16) (none),
   descriptor 0x8F "RES 1,A" (none) 0 (some 8) (none)]

/-- The extended table, bytes 0x90 to 0x9F. -/
def extendedTable9 : List Descriptor :=
  [descriptor 0x90 "RES 2,B" (none) 0 (some 8) (none),
   descriptor 0x91 "RES 2,C" (none) 0 (some 8) (none),
   descriptor 0x92 "RES 2,D" (none) 0 (some 8) (none),
   descriptor 0x93 "RES 2,E" (none) 0 (some 8) (none),
   descriptor 0x94 "RES 2,H" (none) 0 (some 8) (none),
   descriptor 0x95 "RES 2,L" (none) 0 (some 8) (none),
   descriptor 0x96 "RES 2,(HL)" (none) 0 (some 16) (none),
   descriptor 0x97 "RES 2,A" (none) 0 (some 8) (none),
   descriptor 0x98 "RES 3,B" (none) 0 (some 8) (none),
   descriptor 0x99 "RES 3,C" (none) 0 (some 8) (none),
   descriptor 0x9A "RES 3,D" (none) 0 (some 8) (none),
   descriptor 0x9B "RES 3,E" (none) 0 (some 8) (none),
   descriptor 0x9C "RES 3,H" (none) 0 (some 8) (none),
   descriptor 0x9D "RES 3,L" (none) 0 (some 8) (none),
   descriptor 0x9E "RES 3,(HL)" (none) 0 (some 16) (none),
   descriptor 0x9F "RES 3,A" (none) 0 (some 8) (none)]

/-- The extended table, bytes 0xA0 to 0xAF. -/
def extendedTableA : List Descriptor :=
  [descriptor 0xA0 "RES 4,B" (none) 0 (some 8) (none),
   descriptor 0xA1 "RES 4,C" (none) 0 (some 8) (none),
   descriptor 0xA2 "RES 4,D" (none) 0 (some 8) (none),
   descriptor 0xA3 "RES 4,E" (none) 0 (some 8) (none),
   descriptor 0xA4 "RES 4,H" (none) 0 (some 8) (none),
   descriptor 0xA5 "RES 4,L" (none) 0 (some 8) (none),
   descriptor 0xA6 "RES 4,(HL)" (none) 0 (some 16) (none),
   descriptor 0xA7 "RES 4,A" (none) 0 (some 8) (none),
   descriptor 0xA8 "RES 5,B" (none) 0 (some 8) (none),
   descriptor 0xA9 "RES 5,C" (none) 0 (some 8) (none),
   descriptor 0xAA "RES 5,D" (none) 0 (some 8) (none),
   descriptor 0xAB "RES 5,E" (none) 0 (some 8) (none),
   descriptor 0xAC "RES 5,H" (none) 0 (some 8) (none),
   descriptor 0xAD "RES 5,L" (none) 0 (some 8) (none),
   descriptor 0xAE "RES 5,(HL)" (none) 0 (some 16) (none),
   descriptor 0xAF "RES 5,A" (none) 0 (some 8) (none)]

/-- The extended table, bytes 0xB0 to 0xBF. -/
def extendedTableB : List Descriptor :=
  [descriptor 0xB0 "RES 6,B" (none) 0 (some 8) (none),
   descriptor 0xB1 "RES 6,C" (none) 0 (some 8) (none),
   descriptor 0xB2 "RES 6,D" (none) 0 (some 8) (none),
   descriptor 0xB3 "RES 6,E" (none) 0 (some 8) (none),
   descriptor 0xB4 "RES 6,H" (none) 0 (some 8) (none),
   descriptor 0xB5 "RES 6,L" (none) 0 (some 8) (none),
   descriptor 0xB6 "RES 6,(HL)" (none) 0 (some 16) (none),
   descriptor 0xB7 "RES 6,A" (none) 0 (some 8) (none),
   descriptor 0xB8 "RES 7,B" (none) 0 (some 8) (none),
   descriptor 0xB9 "RES 7,C" (none) 0 (some 8) (none),
   descriptor 0xBA "RES 7,D" (none) 0 (some 8) (none),
   descriptor 0xBB "RES 7,E" (none) 0 (some 8) (none),
   descriptor 0xBC "RES 7,H" (none) 0 (some 8) (none),
   descriptor 0xBD "RES 7,L" (none) 0 (some 8) (none),
   descriptor 0xBE "RES 7,(HL)" (none) 0 (some 16) (none),
   descriptor 0xBF "RES 7,A" (none) 0 (some 8) (none)]

/-- The extended table, bytes 0xC0 to 0xCF. -/
def extendedTableC : List Descriptor :=
  [descriptor 0xC0 "SET 0,B" (none) 0 (some 8) (none),
   descriptor 0xC1 "SET 0,C" (none) 0 (some 8) (none),
   descriptor 0xC2 "SET 0,D" (none) 0 (some 8) (none),
   descriptor 0xC3 "SET 0,E" (none) 0 (some 8) (none),
   descriptor 0xC4 "SET 0,H" (none) 0 (some 8) (none),
   descriptor 0xC5 "SET 0,L" (none) 0 (some 8) (none),
   descriptor 0xC6 "SET 0,(HL)" (none) 0 (some 16) (none),
   descriptor 0xC7 "SET 0,A" (none) 0 (some 8) (none),
   descriptor 0xC8 "SET 1,B" (none) 0 (some 8) (none),
   descriptor 0xC9 "SET 1,C" (none) 0 (some 8) (none),
   descriptor 0xCA "SET 1,D" (none) 0 (some 8) (none),
   descriptor 0xCB "SET 1,E" (none) 0 (some 8) (none),
   descriptor 0xCC "SET 1,H" (none) 0 (some 8) (none),
   descriptor 0xCD "SET 1,L" (none) 0 (some 8) (none),
   descriptor 0xCE "SET 1,(HL)" (none) 0 (some 16) (none),
   descriptor 0xCF "SET 1,A" (none) 0 (some 8) (none)]

/-- The extended table, bytes 0xD0 to 0xDF. -/
def extendedTableD : List Descriptor :=
  [descriptor 0xD0 "SET 2,B" (none) 0 (some 8) (none),
   descriptor 0xD1 "SET 2,C" (none) 0 (some 8) (none),
   descriptor 0xD2 "SET 2,D" (none) 0 (some 8) (none),
   descriptor 0xD3 "SET 2,E" (none) 0 (some 8) (none),
   descriptor 0xD4 "SET 2,H" (none) 0 (some 8) (none),
   descriptor 0xD5 "SET 2,L" (none) 0 (some 8) (none),
   descriptor 0xD6 "SET 2,(HL)" (none) 0 (some 16) (none),
   descriptor 0xD7 "SET 2,A" (none) 0 (some 8) (none),
   descriptor 0xD8 "SET 3,B" (none) 0 (some 8) (none),
   descriptor 0xD9 "SET 3,C" (none) 0 (some 8) (none),
   descriptor 0xDA "SET 3,D" (none) 0 (some 8) (none),
   descriptor 0xDB "SET 3,E" (none) 0 (some 8) (none),
   descriptor 0xDC "SET 3,H" (none) 0 (some 8) (none),
   descriptor 0xDD "SET 3,L" (none) 0 (some 8) (none),
   descriptor 0xDE "SET 3,(HL)" (none) 0 (some 16) (none),
   descriptor 0xDF "SET 3,A" (none) 0 (some 8) (none)]

/-- The extended table, bytes 0xE0 to 0xEF. -/
def extendedTableE : List Descriptor :=
  [descriptor 0xE0 "SET 4,B" (none) 0 (some 8) (none),
   descriptor 0xE1 "SET 4,C" (none) 0 (some 8) (none),
   descriptor 0xE2 "SET 4,D" (none) 0 (some 8) (none),
   descriptor 0xE3 "SET 4,E" (none) 0 (some 8) (none),
   descriptor 0xE4 "SET 4,H" (none) 0 (some 8) (none),
   descriptor 0xE5 "SET 4,L" (none) 0 (some 8) (none),
   descriptor 0xE6 "SET 4,(HL)" (none) 0 (some 16) (none),
   descriptor 0xE7 "SET 4,A" (none) 0 (some 8) (none),
   descriptor 0xE8 "SET 5,B" (none) 0 (some 8) (none),
   descriptor 0xE9 "SET 5,C" (none) 0 (some 8) (none),
   descriptor 0xEA "SET 5,D" (none) 0 (some 8) (none),
   descriptor 0xEB "SET 5,E" (none) 0 (some 8) (none),
   descriptor 0xEC "SET 5,H" (none) 0 (some 8) (none),
   descriptor 0xED "SET 5,L" (none) 0 (some 8) (none),
   descriptor 0xEE "SET 5,(HL)" (none) 0 (some 16) (none),
   descriptor 0xEF "SET 5,A" (none) 0 (some 8) (none)]

/-- The extended table, bytes 0xF0 to 0xFF. -/
def extendedTableF : List Descriptor :=
  [descriptor 0xF0 "SET 6,B" (none) 0 (some 8) (none),
   descriptor 0xF1 "SET 6,C" (none) 0 (some 8) (none),
   descriptor 0xF2 "SET 6,D" (none) 0 (some 8) (none),
   descriptor 0xF3 "SET 6,E" (none) 0 (some 8) (none),
   descriptor 0xF4 "SET 6,H" (none) 0 (some 8) (none),
   descriptor 0xF5 "SET 6,L" (none) 0 (some 8) (none),
   descriptor 0xF6 "SET 6,(HL)" (none) 0 (some 16) (none),
   descriptor 0xF7 "SET 6,A" (none) 0 (some 8) (none),
   descriptor 0xF8 "SET 7,B" (none) 0 (some 8) (none),
   descriptor 0xF9 "SET 7,C" (none) 0 (some 8) (none),
   descriptor 0xFA "SET 7,D" (none) 0 (some 8) (none),
   descriptor 0xFB "SET 7,E" (none) 0 (some 8) (none),
   descriptor 0xFC "SET 7,H" (none) 0 (some 8) (none),
   descriptor 0xFD "SET 7,L" (none) 0 (some 8) (none),
   descriptor 0xFE "SET 7,(HL)" (none) 0 (some 16) (none),
   descriptor 0xFF "SET 7,A" (none) 0 (some 8) (none)]

/-- The extended table: the descriptor of byte `b` is element `b` (R123). -/
def extendedTable : List Descriptor :=
  extendedTable0 ++ extendedTable1 ++ extendedTable2 ++ extendedTable3 ++ extendedTable4 ++ extendedTable5 ++ extendedTable6 ++ extendedTable7
    ++ extendedTable8 ++ extendedTable9 ++ extendedTableA ++ extendedTableB ++ extendedTableC ++ extendedTableD ++ extendedTableE ++ extendedTableF

/-- The descriptor of a primary opcode byte (R123). -/
def primaryDescriptor (b : Byte) : Descriptor := primaryTable.getD b.toNat (descriptor b "" none 0 none none)

/-- The descriptor of an extended opcode byte (R123). -/
def extendedDescriptor (b : Byte) : Descriptor := extendedTable.getD b.toNat (descriptor b "" none 0 none none)

/-- The descriptor that dispatch resolves an instruction to; for a prefixed instruction the extended entry's, whose cost is the one
charged (R120). -/
def instrDescriptor (i : Instr) : Descriptor :=
  match encode i with
  | [b0, b1] => if b0 = 0xCB then extendedDescriptor b1 else primaryDescriptor b0
  | b0 :: _ => primaryDescriptor b0
  | [] => descriptor 0 "" none 0 none none

/-- A hexadecimal digit, upper case (R125, D33). -/
def hexDigit (k : Nat) : String :=
  ["0", "1", "2", "3", "4", "5", "6", "7", "8", "9", "A", "B", "C", "D", "E", "F"].getD (k % 16) ""

/-- `0x` and two digits (R125). -/
def hexByte (v : Byte) : String := "0x" ++ hexDigit (v.toNat / 16) ++ hexDigit v.toNat

/-- `0x` and four digits (R125). -/
def hexWord (w : Word) : String :=
  "0x" ++ hexDigit (w.toNat / 4096) ++ hexDigit (w.toNat / 256) ++ hexDigit (w.toNat / 16) ++ hexDigit w.toNat

/-- The template with its placeholder replaced by the payload's literal; a template without a placeholder is returned unchanged
(R125). DESIGN CHOICE, safe: the spec is silent on a payload whose length is not the operand width, 1 or 2; each byte that a
shorter one lacks is rendered as 0x00, and the bytes that a longer one has beyond the width are ignored (log 17). -/
def renderTemplate (d : Descriptor) (payload : List Byte) : String :=
  match d.tail with
  | none => d.head
  | some rest =>
    d.head ++ (if d.width = 2 then hexWord (joinBytes (payload.getD 0 0) (payload.getD 1 0)) else hexByte (payload.getD 0 0)) ++ rest

/-- Disassembly, a pure function of the opcode byte and its payload bytes (R125); the entry 0xCB has width 0, so its template is
returned unchanged (R295). -/
def disassemble (opcode : Byte) (payload : List Byte) : String := renderTemplate (primaryDescriptor opcode) payload

/-- Disassembly of the extended opcode after the prefix: width 0, so the extended entry's template is returned unchanged (R125). -/
def disassembleExtended (xop : Byte) : String := renderTemplate (extendedDescriptor xop) []

end Sys2Proof.Machine
end

