-- ==== Sys2Proof/Machine/Driver.lean ====
section
/-! DEFINITION. What the host (driver and collaborators) may do strictly between two steps (60_exceptions.md R332), as functions on
the state. `step` takes the host to do nothing; a claim about a machine with devices interleaves these with steps (log 14). The
host's reads are the accessors of Machine/Ops.lean (R330). -/
namespace Sys2Proof.Machine

/-- The sources whose pending bit the host may set: 0, 1, 3, 4 (R313, R332). -/
inductive HostSource where
  | vblank | lcdStatus | serialLink | joypadPress
  deriving DecidableEq, Repr

/-- A host source as an interrupt source. -/
def HostSource.toIntSource (h : HostSource) : IntSource :=
  match h with
  | .vblank => .vblank
  | .lcdStatus => .lcdStatus
  | .serialLink => .serialLink
  | .joypadPress => .joypadPress

/-- The peripheral-view registers (10_state.md R41). -/
inductive ViewReg where
  | joyp | sb | sc | lcdc | stat | scy | scx | ly | bgp | obp0 | obp1
  deriving DecidableEq, Repr

/-- A view register as a register of the bank. -/
def ViewReg.toHwReg (r : ViewReg) : HwReg :=
  match r with
  | .joyp => .joyp
  | .sb => .sb
  | .sc => .sc
  | .lcdc => .lcdc
  | .stat => .stat
  | .scy => .scy
  | .scx => .scx
  | .ly => .ly
  | .bgp => .bgp
  | .obp0 => .obp0
  | .obp1 => .obp1

/-- An action of the host between steps (R332). -/
inductive DriverAction where
  /-- request an interrupt: "sets IF[i] for i in {0, 1, 3, 4}" -/
  | requestInterrupt (source : HostSource)
  /-- write memory "through the same write path as any other client" -/
  | writeMemory (a : Word) (v : Byte)
  /-- update a peripheral-view register: "sets the stored byte", all of it (log 16) -/
  | updateView (r : ViewReg) (v : Byte)
  /-- change the button state: it changes what `JoypadRead` returns and nothing else -/
  | changeButtons (n : Nat)
  deriving DecidableEq, Repr

/-- The state after a host action. -/
def State.drive (s : State) (act : DriverAction) : State :=
  match act with
  | .requestInterrupt source =>
    { s with io := s.io.set .intFlag (s.io.intFlag ||| oneBit source.toIntSource.index) }
  | .writeMemory a v => s.memWrite a v
  | .updateView r v => { s with io := s.io.set r.toHwReg v }
  | .changeButtons n => { s with buttons := n }

/-- Seed a memory with the bytes of an image from address `a` up. -/
def Memory.seed (m : Memory) (a : Nat) (image : List Byte) : Memory :=
  match image with
  | [] => m
  | v :: rest => (m.set a v).seed (a + 1) rest

/-- `loadImage(bytes)`: seeds the ROM region, at most 32768 bytes, before the first step only (20_memory.md R64, R90, log 3). -/
def State.loadImage (s : State) (image : List Byte) : State :=
  { s with params := { s.params with rom := s.params.rom.seed 0 (image.take 0x8000) } }

/-- Fix the parameter `BOOT_ROM`, 256 bytes, before the first step only (R4, R62, log 3). -/
def State.loadBootRom (s : State) (image : List Byte) : State :=
  { s with params := { s.params with bootRom := s.params.bootRom.seed 0 (image.take 0x100) } }

end Sys2Proof.Machine
end

