-- ==== Sys2Proof/Safety.lean ====
section
/-! DEFINITION. The terms claims are stated in: the invariant of the machine, what a step may leave unchanged (its frame), what a
store may change, the codes of the operand tables, the rotates as arithmetic, the timer loops as the spec writes them. -/
namespace Sys2Proof

/-! ### The codes of the operand tables (30_encoding.md R113 to R116) -/

/-- The index of a byte register in `r8` (R113). -/
def Reg8.code : Reg8 → Byte
  | .b => 0
  | .c => 1
  | .d => 2
  | .e => 3
  | .h => 4
  | .l => 5
  | .a => 7

/-- The index of an operand in `r8` (R113). -/
def Operand8.code : Operand8 → Byte
  | .reg r => r.code
  | .hlInd => 6

/-- The index of a pair in `r16` (R114). -/
def Reg16.code : Reg16 → Byte
  | .bc => 0
  | .de => 1
  | .hl => 2
  | .sp => 3

/-- The index of a pair in `r16stk` (R114). -/
def Stk16.code : Stk16 → Byte
  | .bc => 0
  | .de => 1
  | .hl => 2
  | .af => 3

/-- The index of a condition in `cc` (R115). -/
def Cond.code : Cond → Byte
  | .nz => 0
  | .z => 1
  | .nc => 2
  | .c => 3

/-- The index of an operation in `alu` (R116). -/
def AluOp.code : AluOp → Byte
  | .add => 0
  | .adc => 1
  | .sub => 2
  | .sbc => 3
  | .and => 4
  | .xor => 5
  | .or => 6
  | .cp => 7

/-- The index of an operation in `rot` (R116). -/
def RotOp.code : RotOp → Byte
  | .rlc => 0
  | .rrc => 1
  | .rl => 2
  | .rr => 3
  | .sla => 4
  | .sra => 5
  | .swap => 6
  | .srl => 7

namespace Machine

/-! ### Arithmetic of the spec -/

/-- The result of `rot[y]` on the value `v` of a byte, with the old carry flag, as arithmetic on 0 to 255 (R245 to R252). -/
def rotNat (op : RotOp) (v : Nat) (carry : Bool) : Nat :=
  match op with
  | .rlc => v * 2 % 256 + v / 128
  | .rrc => v / 2 + 128 * (v % 2)
  | .rl => v * 2 % 256 + carry.toNat
  | .rr => v / 2 + 128 * carry.toNat
  | .sla => v * 2 % 256
  | .sra => v / 2 + 128 * (v / 128)
  | .swap => v % 16 * 16 + v / 16
  | .srl => v / 2

/-- The bit that `rot[y]` moves out, as arithmetic (R245 to R252); nothing for `SWAP`. -/
def rotOut (op : RotOp) (v : Nat) : Bool :=
  match op with
  | .rlc | .rl | .sla => decide (v / 128 = 1)
  | .rrc | .rr | .sra | .srl => decide (v % 2 = 1)
  | .swap => false

/-- `sext_16(v)`: "`v` if `v < 128`, else `v + 0xFF00`" (00_scope.md R5). -/
def sextNat (n : Byte) : Nat := if n.toNat < 128 then n.toNat else n.toNat + 0xFF00

/-- The number that a packed BCD byte stands for (R205). -/
def bcdValue (v : Byte) : Nat := v.toNat / 16 * 10 + v.toNat % 16

/-- Both nibbles are decimal digits (R205). -/
def IsBcd (v : Byte) : Prop := v.toNat / 16 ≤ 9 ∧ v.toNat % 16 ≤ 9

/-- The loop of R324 on `(div_acc, DIV)`, as the spec writes it, at most `fuel` times round. -/
def divLoop (fuel acc : Nat) (div : Byte) : Nat × Byte :=
  match fuel with
  | 0 => (acc, div)
  | fuel + 1 => if acc ≥ 256 then divLoop fuel (acc - 256) (div + 1) else (acc, div)

/-- The loop of R325 on `tima_acc` and the registers, as the spec writes it, at most `fuel` times round. -/
def timaLoop (fuel period acc : Nat) (io : HwRegs) : Nat × HwRegs :=
  match fuel with
  | 0 => (acc, io)
  | fuel + 1 =>
    if acc ≥ period then
      timaLoop fuel period (acc - period)
        (if io.tima = 0xFF then { io with tima := io.tma, intFlag := io.intFlag ||| 0x04 } else { io with tima := io.tima + 1 })
    else (acc, io)

/-- The cost that the tables declare for an instruction in a state (R123, R129): `cycles`, or `cycles_taken` where the entry has
one and the condition that field `y` of its code selects holds (R115). -/
def declaredCost (i : Instr) (s : State) : Nat :=
  let d := instrDescriptor i
  match d.cyclesTaken with
  | some taken => if s.cond (condOf (fieldY d.code)) then taken else d.cycles.getD 0
  | none => d.cycles.getD 0

/-! ### The invariant -/

/-- The arguments' memories are canonical, `ROM` lists addresses 0x0000 to 0x7FFF and `BOOT_ROM` offsets 0x00 to 0xFF alone
(10_state.md R42). -/
abbrev Params.wf (p : Params) : Prop :=
  p.rom.wf ∧ p.bootRom.wf ∧ (∀ c ∈ p.rom, c.1 ≤ 0x7FFF) ∧ ∀ c ∈ p.bootRom, c.1 ≤ 0x00FF

/-- No cell outside the stores behind the decoder (10_state.md R42): `RAM` and `OAM` at 0x8000 to 0xFEFF, `HRAM` at 0xFF80 to
0xFFFE. -/
abbrev State.inStores (s : State) : Prop :=
  ∀ c ∈ s.mem, (0x8000 ≤ c.1 ∧ c.1 ≤ 0xFEFF) ∨ (0xFF80 ≤ c.1 ∧ c.1 ≤ 0xFFFE)

/-- "bits 3:0 of F are always 0 in every reachable state" (R22), in the cell and in the saved copy. -/
abbrev State.lowNibbleZero (s : State) : Prop := s.af &&& 0x000F = 0 ∧ ∀ r ∈ s.saved, r.af &&& 0x000F = 0

/-- The prescalers stay in their ranges (R40). -/
abbrev State.prescalersInRange (s : State) : Prop := s.divAcc < 256 ∧ s.timaAcc < 1024

/-- The machine's invariant: canonical memories, the arguments' among them, cells only inside the stores, the low nibble of `F` zero, the prescalers in
range. -/
abbrev State.Inv (s : State) : Prop :=
  s.mem.wf ∧ s.params.wf ∧ s.inStores ∧ s.lowNibbleZero ∧ s.prescalersInRange

/-! ### Frames -/

/-- The ten registers a program can see by name (R20, R21). -/
inductive RegName where
  | a | f | b | c | d | e | h | l | sp | pc
  deriving DecidableEq, Repr

/-- The value of a register as a number; `F` as it reads (R22). -/
def State.regVal (s : State) (r : RegName) : Nat :=
  match r with
  | .a => s.getA.toNat
  | .f => s.getF.toNat
  | .b => (s.getR8 .b).toNat
  | .c => (s.getR8 .c).toNat
  | .d => (s.getR8 .d).toNat
  | .e => (s.getR8 .e).toNat
  | .h => (s.getR8 .h).toNat
  | .l => (s.getR8 .l).toNat
  | .sp => s.sp.toNat
  | .pc => s.pc.toNat

/-- The name of a byte register. -/
def regNameOf (r : Reg8) : RegName :=
  match r with
  | .b => .b
  | .c => .c
  | .d => .d
  | .e => .e
  | .h => .h
  | .l => .l
  | .a => .a

/-- The register names that a pair of the load and arithmetic forms holds (R21, R114). -/
def pairNames (p : Reg16) : List RegName :=
  match p with
  | .bc => [.b, .c]
  | .de => [.d, .e]
  | .hl => [.h, .l]
  | .sp => [.sp]

/-- The register names that a pair of `PUSH` and `POP` holds (R21, R114). -/
def stkNames (q : Stk16) : List RegName :=
  match q with
  | .bc => [.b, .c]
  | .de => [.d, .e]
  | .hl => [.h, .l]
  | .af => [.a, .f]

/-- Every register but those named reads in `t` as in `s`. -/
def KeepsRegs (except : List RegName) (s t : State) : Prop := ∀ r : RegName, r ∉ except → t.regVal r = s.regVal r

/-- Everything but the register file, `IME`, `mode` and `cycles` is in `t` as in `s`: every byte of memory, the stores behind the
decoder, the parameters (`ROM` and `BOOT_ROM` among them), every hardware register, the overlay, the prescalers, the saved set, the button state. -/
def KeepsMachine (s t : State) : Prop :=
  (∀ a : Word, t.memRead a = s.memRead a) ∧ t.mem = s.mem ∧ t.io = s.io ∧
    t.bootEnabled = s.bootEnabled ∧ t.divAcc = s.divAcc ∧ t.timaAcc = s.timaAcc ∧ t.saved = s.saved ∧ t.params = s.params ∧
    t.buttons = s.buttons

/-- The frame of an instruction that stores nothing and leaves `IME` and `mode` at the given values: only the named registers may
differ, and `cycles` grows by the cost. -/
def ChangesControl (regs : List RegName) (ime : Bool) (mode : Mode) (cost : Nat) (s t : State) : Prop :=
  KeepsRegs regs s t ∧ KeepsMachine s t ∧ t.ime = ime ∧ t.mode = mode ∧ t.cycles = s.cycles + cost

/-- The frame of an instruction that stores nothing and leaves `IME` and `mode`: only the named registers may differ, and `cycles`
grows by the cost. -/
def Changes (regs : List RegName) (cost : Nat) (s t : State) : Prop := ChangesControl regs s.ime s.mode cost s t

/-- The addresses `x` whose byte may read differently after a store at `a`: `a` itself; after a store to the DMA trigger also OAM
(R79, R80); after a store to `BOOT` also the addresses the overlay gives up (R81). -/
def Touched (a x : Word) : Prop :=
  x = a ∨ (a = HwReg.dma.addr ∧ 0xFE00 ≤ x.toNat ∧ x.toNat ≤ 0xFEFF) ∨ (a = HwReg.boot.addr ∧ x.toNat ≤ 0x00FF)

/-- `s` after byte writes through the controller, in the order of the list. -/
def State.writeAll (s : State) (stores : List (Word × Byte)) : State := stores.foldl (fun u c => u.memWrite c.1 c.2) s

/-- The effect and the frame of an instruction that stores the listed bytes at the listed addresses, in that order: every byte
reads as after those writes through the controller, and memory, the hardware registers, the overlay and the divider's prescaler
are as after them; every byte that no store touches reads as before; of the hardware registers only those stored to differ, of
the prescalers only the divider's and only after a store to `DIV`, the overlay only after a store to `BOOT`; of the registers
only those named; `cycles` grows by the cost. -/
def Stores (stores : List (Word × Byte)) (regs : List RegName) (cost : Nat) (s t : State) : Prop :=
  ((∀ x : Word, t.memRead x = (s.writeAll stores).memRead x) ∧ t.mem = (s.writeAll stores).mem ∧
    t.io = (s.writeAll stores).io ∧ t.bootEnabled = (s.writeAll stores).bootEnabled ∧
    t.divAcc = (s.writeAll stores).divAcc) ∧
  ((∀ x : Word, (∀ c ∈ stores, ¬Touched c.1 x) → t.memRead x = s.memRead x) ∧
    (∀ r : HwReg, (∀ c ∈ stores, c.1 ≠ r.addr) → t.io.get r = s.io.get r) ∧
    ((∀ c ∈ stores, c.1 ≠ HwReg.div.addr) → t.divAcc = s.divAcc) ∧
    ((∀ c ∈ stores, c.1 ≠ HwReg.boot.addr) → t.bootEnabled = s.bootEnabled) ∧
    t.timaAcc = s.timaAcc ∧ t.saved = s.saved ∧ t.params = s.params ∧ t.buttons = s.buttons) ∧
  KeepsRegs regs s t ∧ t.ime = s.ime ∧ t.mode = s.mode ∧ t.cycles = s.cycles + cost

/-! ### The forms of an accumulator operation -/

/-- Every form of `alu[op]` (R192): an operand in a register or at `HL`, or an immediate. `result` gives the value and the flags
for the second operand; the value goes to `A` where `A` is among the registers named. -/
def AccForms (op : AluOp) (result : Byte → AluResult) (regs : List RegName) (s : State) : Prop :=
  (∀ o : Operand8, encode (Form.alu op o) = [0x80 + 8 * op.code + o.code] ∧
    ∃ t, exec (Form.alu op o) s = .next t ∧ (.a ∈ regs → t.getA = (result (s.readOperand o)).value) ∧
      t.flags = (result (s.readOperand o)).flags ∧ Changes regs (operandCost o 4 8) s t) ∧
  (∀ n : Byte, encode (Form.aluImm op n) = [0xC6 + 8 * op.code, n] ∧
    ∃ t, exec (Form.aluImm op n) s = .next t ∧ (.a ∈ regs → t.getA = (result n).value) ∧
      t.flags = (result n).flags ∧ Changes regs 8 s t)

end Machine

end Sys2Proof
end

