-- ==== Sys2Proof/Certificates/Slice0/Obligations.lean ====
section
/-! DEFINITION. The statements for the provers, each a proposition about the model that formalises rules of spec/. An instruction's
statement gives its bytes, that it answers a next state, the result, and the frame. `exec` runs on the state whose `PC` is already
past the instruction (10_state.md R25). -/
open Sys2Proof Sys2Proof.Machine

/-! ### Registers and flags -/

/-- R21: each byte register is one half of one cell, and a write of it leaves every other byte register. -/
def Obligations.ByteRegistersAreHalvesOfCells : Prop :=
  ∀ (s : State) (r q : Reg8) (v : Byte),
    ((s.setR8 r v).getR8 q = (if q = r then v else s.getR8 q) ∧ (s.setR8 r v).getF = s.getF) ∧
    ((s.setF v).getR8 q = s.getR8 q ∧ (s.setF v).getF = v &&& 0xF0) ∧
    ((s.setR8 .b v).bc = joinBytes (lowByte s.bc) v ∧ (s.setR8 .c v).bc = joinBytes v (highByte s.bc) ∧
      (s.setR8 .d v).de = joinBytes (lowByte s.de) v ∧ (s.setR8 .e v).de = joinBytes v (highByte s.de) ∧
      (s.setR8 .h v).hl = joinBytes (lowByte s.hl) v ∧ (s.setR8 .l v).hl = joinBytes v (highByte s.hl) ∧
      (s.setR8 .a v).af = joinBytes (lowByte s.af) v) ∧
    (s.getR8 .b = highByte s.bc ∧ s.getR8 .c = lowByte s.bc ∧ s.getR8 .d = highByte s.de ∧ s.getR8 .e = lowByte s.de ∧
      s.getR8 .h = highByte s.hl ∧ s.getR8 .l = lowByte s.hl ∧ s.getR8 .a = highByte s.af ∧ s.getF = lowByte s.af &&& 0xF0)

/-- R22, R26: a read of `F` is what was written with its low nibble zero, the low nibble of every read of `F` is zero, and the
four flags are bits 7, 6, 5, 4. -/
def Obligations.FlagByteIsMaskedAndHoldsFourFlags : Prop :=
  ∀ (s : State) (v : Byte) (f : Flags),
    (s.setF v).getF = v &&& 0xF0 ∧ s.getF &&& 0x0F = 0 ∧
    (s.setFlags f).getF.toNat = 128 * f.z.toNat + 64 * f.n.toNat + 32 * f.h.toNat + 16 * f.c.toNat ∧
    (s.setFlags f).flags = f ∧
    s.getF.toNat = 128 * s.flags.z.toNat + 64 * s.flags.n.toNat + 32 * s.flags.h.toNat + 16 * s.flags.c.toNat

/-- R23: a pair reads back as written, `AF` with its low nibble zero; a read of `AF` is `(A << 8) | F`; a write of one pair
leaves the others. -/
def Obligations.PairsReadBackAsWritten : Prop :=
  ∀ (s : State) (w : Word) (p p' : Reg16) (q q' : Stk16),
    (s.setR16 p w).getR16 p' = (if p' = p then w else s.getR16 p') ∧
    (s.setStk16 q w).getStk16 q' = (if q' = q then (if q = .af then w &&& 0xFFF0 else w) else s.getStk16 q') ∧
    (s.getStk16 .af).toNat = s.getA.toNat * 256 + s.getF.toNat ∧ (s.getStk16 .af).toNat % 16 = 0

/-! ### Reset -/

/-- R44: what reset leaves, whatever the arguments (`ROM`, `BOOT_ROM` and `INIT_MEM` among them). The last two clauses are the
model's choice: that the state after reset is such a state for some arguments (log 1), and that every byte of its memories is an
opaque constant of `Config` applied to its address, the model's form of an arbitrary byte (log 2). -/
def Obligations.ResetLeavesTheStatedValues : Prop :=
  (∀ (p : Params) (m : Memory), let s := State.resetWith p m
    (s.af = 0x0000 ∧ s.bc = 0x0000 ∧ s.de = 0x0000 ∧ s.hl = 0x0000 ∧ s.sp = 0x0000 ∧ s.pc = 0x0000) ∧
    s.flags = { z := false, n := false, h := false, c := false } ∧
    (s.bootEnabled = true ∧ s.ime = false ∧ s.mode = .running ∧ s.saved = none ∧ s.cycles = 0) ∧
    (∀ r : HwReg, s.io.get r = 0x00) ∧ s.divAcc = 0 ∧ s.timaAcc = 0 ∧
    s.mem = m ∧ s.params = p) ∧
  (∃ (p : Params) (m : Memory), State.reset = State.resetWith p m) ∧
  ∀ a : Word,
    (((0x8000 ≤ a.toNat ∧ a.toNat ≤ 0xFEFF) ∨ (0xFF80 ≤ a.toNat ∧ a.toNat ≤ 0xFFFE)) →
      State.reset.memRead a = Config.initMem a.toNat) ∧
    (a.toNat ≤ 0x00FF → State.reset.memRead a = Config.bootRom a.toNat) ∧
    (0x0100 ≤ a.toNat → a.toNat ≤ 0x7FFF → State.reset.memRead a = Config.rom a.toNat)

/-- The state after reset, its arguments as the model takes them (log 1, log 2), meets the invariant. -/
def Obligations.ResetMeetsInvariant : Prop := State.reset.Inv

/-! ### The memory controller -/

/-- R61: the address decoder, region by region, each register of the bank, by name, at its address of R68. -/
def Obligations.AddressDecoderRegions : Prop :=
  (∀ (b : Bool) (a : Word),
    (b = true → a.toNat ≤ 0x00FF → decodeAddr b a = .bootOverlay) ∧
    (b = false → a.toNat ≤ 0x00FF → decodeAddr b a = .rom) ∧
    (0x0100 ≤ a.toNat → a.toNat ≤ 0x7FFF → decodeAddr b a = .rom) ∧
    (0x8000 ≤ a.toNat → a.toNat ≤ 0xFDFF → decodeAddr b a = .ram) ∧
    (0xFE00 ≤ a.toNat → a.toNat ≤ 0xFEFF → decodeAddr b a = .oam) ∧
    (∀ r : HwReg, a = r.addr → decodeAddr b a = .register r) ∧
    (0xFF80 ≤ a.toNat → a.toNat ≤ 0xFFFE → decodeAddr b a = .hram) ∧
    (0xFF00 ≤ a.toNat → a.toNat ≤ 0xFF7F → (∀ r : HwReg, a ≠ r.addr) → decodeAddr b a = .unmapped)) ∧
  HwReg.all.map (fun r => (r, r.addr)) =
    [(.joyp, 0xFF00), (.sb, 0xFF01), (.sc, 0xFF02), (.div, 0xFF04), (.tima, 0xFF05), (.tma, 0xFF06), (.tac, 0xFF07),
      (.intFlag, 0xFF0F), (.lcdc, 0xFF40), (.stat, 0xFF41), (.scy, 0xFF42), (.scx, 0xFF43), (.ly, 0xFF44), (.dma, 0xFF46),
      (.bgp, 0xFF47), (.obp0, 0xFF48), (.obp1, 0xFF49), (.boot, 0xFF50), (.intEnable, 0xFFFF)] ∧
  ∀ r : HwReg, r ∈ HwReg.all

/-- R62, R70: what the overlay and the unmapped addresses read as; without the overlay its addresses read as ROM. -/
def Obligations.OverlayAndUnmappedReads : Prop :=
  ∀ (s : State) (a : Word),
    (s.bootEnabled = true → a.toNat ≤ 0x00FF → s.memRead a = s.bootByte a.toNat) ∧
    (s.bootEnabled = false → a.toNat ≤ 0x00FF → s.memRead a = s.romByte a.toNat) ∧
    (0xFF00 ≤ a.toNat → a.toNat ≤ 0xFF7F → (∀ r : HwReg, a ≠ r.addr) → s.memRead a = s.params.defaultRead)

/-- R63, R65, R71: a write to the active overlay, to ROM or to an unmapped address changes nothing. -/
def Obligations.IgnoredWritesChangeNothing : Prop :=
  ∀ (s : State) (a : Word) (v : Byte),
    (a.toNat ≤ 0x7FFF → s.memWrite a v = s) ∧
    (0xFF00 ≤ a.toNat → a.toNat ≤ 0xFF7F → (∀ r : HwReg, a ≠ r.addr) → s.memWrite a v = s)

/-- R66, R67, R69: RAM, OAM and HRAM are plain storage: a byte reads back as written, every other address reads as before, and
nothing but memory changes. -/
def Obligations.PlainStorageReadsBack : Prop :=
  ∀ (s : State) (a : Word) (v : Byte),
    ((0x8000 ≤ a.toNat ∧ a.toNat ≤ 0xFDFF) ∨ (0xFE00 ≤ a.toNat ∧ a.toNat ≤ 0xFEFF) ∨ (0xFF80 ≤ a.toNat ∧ a.toNat ≤ 0xFFFE)) →
      (s.memWrite a v).memRead a = v ∧ (∀ x : Word, x ≠ a → (s.memWrite a v).memRead x = s.memRead x) ∧
      ∃ m : Memory, s.memWrite a v = { s with mem := m }

/-- R72, R73: words are little-endian, two byte accesses, the second at the address plus one modulo 65536; in plain storage a
word reads back as written. -/
def Obligations.WordsAreLittleEndian : Prop :=
  ∀ (s : State) (a w : Word),
    (s.memRead16 a).toNat = (s.memRead (a + 1)).toNat * 256 + (s.memRead a).toNat ∧
    (a + 1).toNat = (a.toNat + 1) % 65536 ∧
    s.memWrite16 a w = (s.memWrite a (BitVec.ofNat 8 (w.toNat % 256))).memWrite (a + 1) (BitVec.ofNat 8 (w.toNat / 256)) ∧
    (0x8000 ≤ a.toNat → a.toNat ≤ 0xFEFE → (s.memWrite16 a w).memRead16 a = w)

/-- R77, R78, R84: the registers that store the whole byte written and read it back, with no other effect: each at its address
of R68 and in its field, and all by name. -/
def Obligations.PlainRegistersStoreTheByte : Prop :=
  (∀ (s : State) (v : Byte),
    (s.memRead 0xFF01 = s.io.sb ∧ s.memWrite 0xFF01 v = { s with io := { s.io with sb := v } }) ∧
    (s.memRead 0xFF02 = s.io.sc ∧ s.memWrite 0xFF02 v = { s with io := { s.io with sc := v } }) ∧
    (s.memRead 0xFF05 = s.io.tima ∧ s.memWrite 0xFF05 v = { s with io := { s.io with tima := v } }) ∧
    (s.memRead 0xFF06 = s.io.tma ∧ s.memWrite 0xFF06 v = { s with io := { s.io with tma := v } }) ∧
    (s.memRead 0xFF07 = s.io.tac ∧ s.memWrite 0xFF07 v = { s with io := { s.io with tac := v } }) ∧
    (s.memRead 0xFF0F = s.io.intFlag ∧ s.memWrite 0xFF0F v = { s with io := { s.io with intFlag := v } }) ∧
    (s.memRead 0xFF40 = s.io.lcdc ∧ s.memWrite 0xFF40 v = { s with io := { s.io with lcdc := v } }) ∧
    (s.memRead 0xFF42 = s.io.scy ∧ s.memWrite 0xFF42 v = { s with io := { s.io with scy := v } }) ∧
    (s.memRead 0xFF43 = s.io.scx ∧ s.memWrite 0xFF43 v = { s with io := { s.io with scx := v } }) ∧
    (s.memRead 0xFF44 = s.io.ly ∧ s.memWrite 0xFF44 v = { s with io := { s.io with ly := v } }) ∧
    (s.memRead 0xFF47 = s.io.bgp ∧ s.memWrite 0xFF47 v = { s with io := { s.io with bgp := v } }) ∧
    (s.memRead 0xFF48 = s.io.obp0 ∧ s.memWrite 0xFF48 v = { s with io := { s.io with obp0 := v } }) ∧
    (s.memRead 0xFF49 = s.io.obp1 ∧ s.memWrite 0xFF49 v = { s with io := { s.io with obp1 := v } }) ∧
    (s.memRead 0xFFFF = s.io.intEnable ∧ s.memWrite 0xFFFF v = { s with io := { s.io with intEnable := v } })) ∧
  (∀ s : State, HwReg.all.map (fun r => (r, s.io.get r)) =
    [(.joyp, s.io.joyp), (.sb, s.io.sb), (.sc, s.io.sc), (.div, s.io.div), (.tima, s.io.tima), (.tma, s.io.tma),
      (.tac, s.io.tac), (.intFlag, s.io.intFlag), (.lcdc, s.io.lcdc), (.stat, s.io.stat), (.scy, s.io.scy), (.scx, s.io.scx),
      (.ly, s.io.ly), (.dma, s.io.dma), (.bgp, s.io.bgp), (.obp0, s.io.obp0), (.obp1, s.io.obp1), (.boot, s.io.boot),
      (.intEnable, s.io.intEnable)]) ∧
  ∀ (s : State) (v : Byte), ∀ r ∈ ([.sb, .sc, .tima, .tma, .tac, .intFlag, .lcdc, .scy, .scx, .ly, .bgp, .obp0, .obp1,
      .intEnable] : List HwReg),
    s.memRead r.addr = s.io.get r ∧ (s.memWrite r.addr v).memRead r.addr = v ∧
    (∀ q : HwReg, q ≠ r → (s.memWrite r.addr v).io.get q = s.io.get q) ∧
    ∃ io : HwRegs, s.memWrite r.addr v = { s with io := io }

/-- R76, R81, R82, R83: the registers with a behaviour of their own: a write of `DIV` clears it and its prescaler, a write of
`BOOT` disables the overlay, `STAT` takes bits 6:3 alone, a read of `JOYP` is the host's function of the stored selector and
the button state (log 4). -/
def Obligations.SpecialRegisterBehaviours : Prop :=
  ∀ (s : State) (v : Byte),
    (s.memRead 0xFF04 = s.io.div ∧ s.memWrite 0xFF04 v = { s with io := { s.io with div := 0x00 }, divAcc := 0 }) ∧
    (s.memRead 0xFF50 = s.io.boot ∧ s.memWrite 0xFF50 v = { s with io := { s.io with boot := v }, bootEnabled := false }) ∧
    (s.memRead 0xFF41 = s.io.stat ∧
      s.memWrite 0xFF41 v = { s with io := { s.io with stat := (s.io.stat &&& 0x87) ||| (v &&& 0x78) } }) ∧
    (s.memRead 0xFF00 = Config.joypadRead s.io.joyp s.buttons ∧
      s.memWrite 0xFF00 v = { s with io := { s.io with joyp := v } })

/-- R79, R80: a write of the DMA trigger stores the page and, when the page is valid, copies its 256 bytes to OAM in the same
write: every byte of OAM reads as its source did, every other address as before, and only memory differs. A read of the trigger
delivers the stored byte. -/
def Obligations.DmaTriggerCopiesThePage : Prop :=
  ∀ (s : State) (page : Byte), let u : State := { s with io := { s.io with dma := page } }
    (page.toNat ≤ s.params.dmaPageMax.toNat →
      (∃ m : Memory, s.memWrite 0xFF46 page = { u with mem := m }) ∧
      (∀ i : Nat, i < 256 →
        (s.memWrite 0xFF46 page).memRead (0xFE00 + BitVec.ofNat 16 i) = u.memRead (BitVec.ofNat 16 (page.toNat * 0x100 + i))) ∧
      (∀ x : Word, (x.toNat < 0xFE00 ∨ 0xFEFF < x.toNat) → (s.memWrite 0xFF46 page).memRead x = u.memRead x)) ∧
    (s.params.dmaPageMax.toNat < page.toNat → s.memWrite 0xFF46 page = u) ∧
    s.memRead 0xFF46 = s.io.dma ∧ (s.memWrite 0xFF46 page).memRead 0xFF46 = page

/-- R4, R64, R42: a byte of ROM not under the overlay reads as the image's, and no step changes an argument: the image, `BOOT_ROM`
or a parameter. That the state carries them is the model's choice (log 1). -/
def Obligations.RomAndParametersNeverChange : Prop :=
  (∀ (s : State) (a : Word), a.toNat ≤ 0x7FFF → (s.bootEnabled = false ∨ 0x00FF < a.toNat) → s.memRead a = s.romByte a.toNat) ∧
  ∀ s t : State, step s = .next t →
    t.params = s.params ∧ ∀ k : Nat, t.romByte k = s.romByte k ∧ t.bootByte k = s.bootByte k

/-- R39: the overlay is on after reset, any write of `BOOT` turns it off whatever the value, and no step turns it on. -/
def Obligations.OverlayIsNeverEnabledAgain : Prop :=
  State.reset.bootEnabled = true ∧ State.reset.memRead 0xFF50 = 0x00 ∧
  (∀ (s : State) (v : Byte), (s.memWrite 0xFF50 v).bootEnabled = false ∧ (s.memWrite 0xFF50 v).memRead 0xFF50 = v) ∧
  ∀ s t : State, step s = .next t → s.bootEnabled = false → t.bootEnabled = false

/-! ### Encoding -/

/-- R110, R111, R127, R128: every well-formed instruction's bytes decode to it, and the bytes after it are left. -/
def Obligations.DecodeOfEncodeIsTheInstruction : Prop :=
  ∀ (i : Instr) (rest : List Byte), i.wellFormed = true → decode (encode i ++ rest) = .ok (i, rest)

/-- R111, R121, R122: any three bytes decode to a well-formed instruction, whose bytes are the first of them, as many as the
first byte says; it is a removed opcode exactly for the eleven bytes of R121. -/
def Obligations.EveryByteDecodesToItsInstruction : Prop :=
  ∀ b0 b1 b2 : Byte,
    (decodeBytes b0 b1 b2).wellFormed = true ∧ encode (decodeBytes b0 b1 b2) = [b0, b1, b2].take (instrLength b0) ∧
    ((∃ c : Byte, decodeBytes b0 b1 b2 = .illegal c) ↔
      b0 ∈ ([0xD3, 0xDB, 0xDD, 0xE3, 0xE4, 0xEB, 0xEC, 0xED, 0xF4, 0xFC, 0xFD] : List Byte))

/-- R111, R121, R127, R128: eighteen words of the spec, one or more of each family, decode to the instruction they stand for. That
the prefix byte alone is the error `truncated` is the model's own choice (log 18). -/
def Obligations.KnownWordsDecode : Prop :=
  decode [0x41] = .ok (.ldBC, []) ∧ decode [0x3E, 0x7F] = .ok (.ldAN 0x7F, []) ∧
  decode [0xEA, 0x46, 0xFF] = .ok (.ldIndNnA 0xFF46, []) ∧ decode [0x31, 0xFE, 0xFF] = .ok (.ldSpNn 0xFFFE, []) ∧
  decode [0xF1] = .ok (.popAf, []) ∧ decode [0x80] = .ok (.addAB, []) ∧ decode [0xFE, 0x40] = .ok (.cpAN 0x40, []) ∧
  decode [0x34] = .ok (.incIndHl, []) ∧ decode [0x09] = .ok (.addHlBc, []) ∧ decode [0x17] = .ok (.rla, []) ∧
  decode [0xCB, 0x07] = .ok (.rlcA, []) ∧ decode [0xCB, 0x65] = .ok (.bit4L, []) ∧ decode [0xCB, 0xDE] = .ok (.set3IndHl, []) ∧
  decode [0x18, 0x05] = .ok (.jrN 0x05, []) ∧ decode [0xDC, 0x00, 0x02] = .ok (.callCNn 0x0200, []) ∧
  decode [0xEF] = .ok (.rst28, []) ∧ decode [0x76] = .ok (.halt, []) ∧ decode [0xDD] = .ok (.illegal 0xDD, []) ∧
  decode [0xCB] = .error (.truncated 0xCB)

/-- R120, R295: after the byte 0xCB the fetch takes one more byte, `PC` advances by 2, and the instruction is that entry of
the extended table; the prefix's own constructor has that entry's effect and completes. The prefix's constructor is the
model's (log 7). -/
def Obligations.PrefixRunsTheExtendedEntry : Prop :=
  (∀ s : State, s.memRead s.pc = 0xCB →
    s.fetchInstr = (decodeExtended (s.memRead (s.pc + 1)), { s with pc := s.pc + 2 })) ∧
  ∀ (s : State) (xop : Byte), encode (decodeExtended xop) = [0xCB, xop] ∧ encode (.prefixCb xop) = [0xCB, xop] ∧
    ∃ t, exec (.prefixCb xop) s = .next t ∧ exec (decodeExtended xop) s = .next t ∧
      t.cycles = s.cycles + declaredCost (decodeExtended xop) s

/-! ### The step -/

/-- R317, R327, R25: when `IME` is clear or no source is both pending and enabled (R314, R316), a step decodes the bytes at `PC`, runs the instruction with `PC` past its
bytes, and advances the timers by what the instruction added to `cycles`; the button state is then open again (log 4). A fault
or a refusal of the instruction is the step's. -/
def Obligations.StepRunsTheDecodedInstruction : Prop :=
  ∀ (s : State) (i : Instr) (rest : List Byte), s.mode = .running →
    (s.ime = false ∨ (s.io.intEnable &&& s.io.intFlag) &&& 0x1F = 0) →
    decode [s.memRead s.pc, s.memRead (s.pc + 1), s.memRead (s.pc + 2)] = .ok (i, rest) →
    let u : State := { s with pc := s.pc + BitVec.ofNat 16 (encode i).length }
    step s = match exec i u with
      | .next t => .next { t.timerAdvance (t.cycles - s.cycles) with buttons := s.buttons + 1 }
      | .fault f => .fault f
      | .refused q => .refused q

/-- R317, R320: when `IME` is set and a source is both pending and enabled, the step takes the interrupt of the least such
index, runs no instruction, charges `INT_ENTRY_CYCLES` and advances the timers by it. The button state is open again (log 4).
-/
def Obligations.StepTakesThePendingInterrupt : Prop :=
  ∀ (s : State) (i : IntSource), s.mode = .running → s.ime = true → getIsr (s.io.intEnable &&& s.io.intFlag) = some i →
    step s = .next { ((s.interruptEntry i).charge s.params.intEntryCycles).timerAdvance s.params.intEntryCycles with
      buttons := s.buttons + 1 }

/-- R316: `GetIsr` gives the set bit of least index in 0 to 4, and none exactly when none of them is set; the service
addresses are those of R313. -/
def Obligations.PriorityEncoderTakesTheLeastIndex : Prop :=
  (∀ m : Byte, (getIsr m = none ↔ m &&& 0x1F = 0) ∧
    ∀ i : IntSource, getIsr m = some i ↔ m.getLsbD i.index = true ∧ ∀ j : Fin 5, j.val < i.index → m.getLsbD j.val = false) ∧
  IntSource.all.map (fun i => (i.index, i.isrAddr)) = [(0, 0x0040), (1, 0x0048), (2, 0x0050), (3, 0x0058), (4, 0x0060)] ∧
  ∀ i : IntSource, i ∈ IntSource.all

/-- R318: what interrupt entry does: the serviced bit of `IF` is cleared, the register set saved, `IME` cleared, `PC` stored
as a little-endian word at the new `SP`, and `PC` set to the service address; nothing else changes. -/
def Obligations.InterruptEntryEffect : Prop :=
  ∀ (s : State) (i : IntSource),
    let u : State := { s with
      io := { s.io with intFlag := s.io.intFlag &&& ~~~(1#8 <<< i.index) }
      saved := some { af := s.getStk16 .af, bc := s.bc, de := s.de, hl := s.hl, sp := s.sp, pc := s.pc }
      ime := false }
    (s.interruptEntry i).pc = i.isrAddr ∧ (s.interruptEntry i).sp = s.sp - 2 ∧
    Stores [(s.sp - 2, lowByte s.pc), (s.sp - 2 + 1, highByte s.pc)] [.sp, .pc] 0 u (s.interruptEntry i)

/-- R319: with the stack in RAM, `RETI` right after an interrupt entry resumes the interrupted code: `PC`, `SP` and every
other register are as before the entry, and interrupts are enabled. -/
def Obligations.RetiAfterInterruptEntryResumes : Prop :=
  ∀ (s : State) (i : IntSource), 0x8002 ≤ s.sp.toNat → s.sp.toNat ≤ 0xFF00 →
    ∃ t, exec .reti (s.interruptEntry i) = .next t ∧ t.pc = s.pc ∧ t.sp = s.sp ∧ t.ime = true ∧ KeepsRegs [] s t

/-- R29, R331: a core that is not Running has no step; a step leaves Running only by `HALT`, to Halted, or by `STOP`, to
Stopped. That there is no step is the fault `noStep` (log 5). -/
def Obligations.OnlyHaltAndStopLeaveRunning : Prop :=
  (∀ s : State, s.mode ≠ .running → step s = .fault (.noStep s.mode)) ∧
  ∀ s t : State, step s = .next t → s.mode = .running ∧ (t.mode = .running ∨ (t.mode = .halted ∧ s.fetchInstr.1 = .halt) ∨
    (t.mode = .stopped ∧ ∃ n : Byte, s.fetchInstr.1 = .stop n))

/-- R28: of all instructions only `EI` and `RETI` set `IME`, and only `DI` clears it. -/
def Obligations.OnlyEiDiRetiWriteIme : Prop :=
  ∀ (i : Instr) (s t : State), exec i s = .next t →
    ((i = .ei ∨ i = .reti) → t.ime = true) ∧ (i = .di → t.ime = false) ∧ (i ≠ .ei → i ≠ .reti → i ≠ .di → t.ime = s.ime)

/-- R30: no instruction writes the saved register set, and none depends on it. -/
def Obligations.SavedSetIsNeverRead : Prop :=
  ∀ (i : Instr) (s t : State) (x : Option Snapshot), exec i s = .next t →
    t.saved = s.saved ∧ exec i { s with saved := x } = .next { t with saved := x }

/-- R296, R310, R311, R312: an instruction stops only if it is a removed opcode, with `Fatal(RemovedOpcode, opcode)` and the
state untouched; a step on a removed opcode, when no interrupt is taken (R314, R316), leaves `PC` one past it; nothing is ever refused. `Fatal` is a fault that carries
the state (log 6). -/
def Obligations.OnlyRemovedOpcodesAreFatal : Prop :=
  (∀ (c : Byte) (s : State), exec (.illegal c) s = .fault (.fatal (.removedOpcode c) s)) ∧
  (∀ (i : Instr) (s : State), (∀ c : Byte, i ≠ .illegal c) → ∃ t, exec i s = .next t) ∧
  ∀ s : State, s.mode = .running → (s.ime = false ∨ (s.io.intEnable &&& s.io.intFlag) &&& 0x1F = 0) →
    s.memRead s.pc ∈ ([0xD3, 0xDB, 0xDD, 0xE3, 0xE4, 0xEB, 0xEC, 0xED, 0xF4, 0xFC, 0xFD] : List Byte) →
    step s = .fault (.fatal (.removedOpcode (s.memRead s.pc)) { s with pc := s.pc + 1 })

/-- R129, R365: every instruction but the removed opcodes completes and adds to `cycles` the cost its table row declares: the
taken cost where the row has one and its condition holds, else the base cost. The cost is the growth of `cycles` (log 12). -/
def Obligations.EveryInstructionChargesItsDeclaredCost : Prop :=
  ∀ (i : Instr) (s : State), (∀ c : Byte, i ≠ .illegal c) →
    ∃ t, exec i s = .next t ∧ t.cycles = s.cycles + declaredCost i s

/-- The invariant of the machine, kept by every step from every state that meets it: canonical memories, cells only inside the
stores (R42), the low nibble of `F` zero (R22), the prescalers in range (R40). -/
def Obligations.EveryStepKeepsTheInvariant : Prop := ∀ s t : State, s.Inv → step s = .next t → t.Inv

/-! ### Timers -/

/-- R323 to R326: the timer advance is the spec's two loops, the divider's and then the timer counter's. -/
def Obligations.TimerAdvanceFollowsTheLoops : Prop :=
  ∀ (s : State) (c fuel : Nat), s.timerAdvance c = (s.advanceDiv c).advanceTima c ∧
    (s.divAcc + c ≤ fuel → s.advanceDiv c = { s with
      divAcc := (divLoop fuel (s.divAcc + c) s.io.div).1
      io := { s.io with div := (divLoop fuel (s.divAcc + c) s.io.div).2 } }) ∧
    (s.io.tac.getLsbD 2 = false → s.advanceTima c = s) ∧
    (s.io.tac.getLsbD 2 = true → s.timaAcc + c ≤ fuel →
      let period := [1024, 16, 64, 256].getD (s.io.tac.toNat % 4) 0
      s.advanceTima c = { s with
        timaAcc := (timaLoop fuel period (s.timaAcc + c) s.io).1
        io := (timaLoop fuel period (s.timaAcc + c) s.io).2 })

/-- R324: across a timer advance the divider and its prescaler, read as one number, grow by the cycles modulo 65536, whatever
the timer control register holds. -/
def Obligations.DividerCountsCycles : Prop :=
  ∀ (s : State) (c : Nat),
    256 * (s.timerAdvance c).io.div.toNat + (s.timerAdvance c).divAcc = (256 * s.io.div.toNat + s.divAcc + c) % 65536

/-! ### The host -/

/-- R332: a host action does what its row says and nothing else, and keeps the invariant. A register is set whole (log 16). -/
def Obligations.HostActionsBetweenSteps : Prop :=
  (∀ (s : State) (act : DriverAction), s.Inv → (s.drive act).Inv) ∧
  ∀ (s : State) (h : HostSource) (a : Word) (v : Byte) (r : ViewReg) (n : Nat),
    s.drive (.requestInterrupt h) = { s with io := { s.io with intFlag := s.io.intFlag ||| (1#8 <<< h.toIntSource.index) } } ∧
    h.toIntSource ≠ .timerOverflow ∧
    s.drive (.writeMemory a v) = s.memWrite a v ∧
    ((∀ q : HwReg, (s.drive (.updateView r v)).io.get q = if q = r.toHwReg then v else s.io.get q) ∧
      ∃ io : HwRegs, s.drive (.updateView r v) = { s with io := io }) ∧
    s.drive (.changeButtons n) = { s with buttons := n }

/-- R90: loading an image seeds the ROM region with its bytes, leaves every other byte, and keeps the invariant. The load is a
function beside the step (log 3). -/
def Obligations.LoadImageSeedsRom : Prop :=
  ∀ (s : State) (image : List Byte), image.length ≤ 0x8000 →
    (∀ k : Nat, (s.loadImage image).romByte k = if k < image.length then image.getD k 0 else s.romByte k) ∧
    (∃ m : Memory, s.loadImage image = { s with params := { s.params with rom := m } }) ∧ (s.Inv → (s.loadImage image).Inv)

/-- R125, R295, seven examples: disassembly puts the payload's hexadecimal literal in the place of the operand placeholder; with
width 0 the template is returned unchanged. That the opcode 0xCB disassembles to its own template whatever the payload, and that an
extended opcode has a function of its own, is read from the rules by inference (log 17). -/
def Obligations.DisassemblyExamples : Prop :=
  disassemble 0x18 [0x05] = "JR 0x05" ∧ disassemble 0xEA [0x46, 0xFF] = "LD (0xFF46),A" ∧ disassemble 0x41 [] = "LD B,C" ∧
  disassemble 0xF8 [0x9C] = "LD HL,SP+0x9C" ∧ disassemble 0xCB [] = "PREFIX CB" ∧ disassemble 0xCB [0x7C] = "PREFIX CB" ∧
  disassembleExtended 0x7C = "BIT 7,H"

/-! ### Loads -/

/-- R140, R141: `LD r,r'` and `LD r,n`. -/
def Obligations.LoadRegister : Prop :=
  ∀ (s : State) (dst src : Reg8) (n : Byte),
    (encode (Form.ldRegReg dst src) = [0x40 + 8 * dst.code + src.code] ∧
      ∃ t, exec (Form.ldRegReg dst src) s = .next t ∧ t.getR8 dst = s.getR8 src ∧ Changes [regNameOf dst] 4 s t) ∧
    (encode (Form.ldRegImm dst n) = [0x06 + 8 * dst.code, n] ∧
      ∃ t, exec (Form.ldRegImm dst n) s = .next t ∧ t.getR8 dst = n ∧ Changes [regNameOf dst] 8 s t)

/-- R142, R145, R146, R149, R151, R153: the loads of a byte from memory. -/
def Obligations.LoadRegisterFromMemory : Prop :=
  ∀ (s : State) (dst : Reg8) (n : Byte) (nn : Word),
    (encode (Form.ldRegInd dst) = [0x46 + 8 * dst.code] ∧
      ∃ t, exec (Form.ldRegInd dst) s = .next t ∧ t.getR8 dst = s.memRead s.hl ∧ Changes [regNameOf dst] 8 s t) ∧
    (encode .ldAIndBc = [0x0A] ∧ ∃ t, exec .ldAIndBc s = .next t ∧ t.getA = s.memRead s.bc ∧ Changes [.a] 8 s t) ∧
    (encode .ldAIndDe = [0x1A] ∧ ∃ t, exec .ldAIndDe s = .next t ∧ t.getA = s.memRead s.de ∧ Changes [.a] 8 s t) ∧
    (encode (.ldAIndNn nn) = [0xFA, lowByte nn, highByte nn] ∧
      ∃ t, exec (.ldAIndNn nn) s = .next t ∧ t.getA = s.memRead nn ∧ Changes [.a] 16 s t) ∧
    (encode (.ldhAIndN n) = [0xF0, n] ∧
      ∃ t, exec (.ldhAIndN n) s = .next t ∧ t.getA = s.memRead (BitVec.ofNat 16 (0xFF00 + n.toNat)) ∧ Changes [.a] 12 s t) ∧
    (encode .ldAIndC = [0xF2] ∧
      ∃ t, exec .ldAIndC s = .next t ∧ t.getA = s.memRead (BitVec.ofNat 16 (0xFF00 + (s.getR8 .c).toNat)) ∧ Changes [.a] 8 s t)

/-- R143, R144, R147, R148, R150, R152, R154: the stores of a byte to memory. -/
def Obligations.StoreByteToMemory : Prop :=
  ∀ (s : State) (src : Reg8) (n : Byte) (nn : Word),
    (encode (Form.ldIndReg src) = [0x70 + src.code] ∧
      ∃ t, exec (Form.ldIndReg src) s = .next t ∧ Stores [(s.hl, s.getR8 src)] [] 8 s t) ∧
    (encode (.ldIndHlN n) = [0x36, n] ∧ ∃ t, exec (.ldIndHlN n) s = .next t ∧ Stores [(s.hl, n)] [] 12 s t) ∧
    (encode .ldIndBcA = [0x02] ∧ ∃ t, exec .ldIndBcA s = .next t ∧ Stores [(s.bc, s.getA)] [] 8 s t) ∧
    (encode .ldIndDeA = [0x12] ∧ ∃ t, exec .ldIndDeA s = .next t ∧ Stores [(s.de, s.getA)] [] 8 s t) ∧
    (encode (.ldIndNnA nn) = [0xEA, lowByte nn, highByte nn] ∧
      ∃ t, exec (.ldIndNnA nn) s = .next t ∧ Stores [(nn, s.getA)] [] 16 s t) ∧
    (encode (.ldhIndNA n) = [0xE0, n] ∧
      ∃ t, exec (.ldhIndNA n) s = .next t ∧ Stores [(BitVec.ofNat 16 (0xFF00 + n.toNat), s.getA)] [] 12 s t) ∧
    (encode .ldIndCA = [0xE2] ∧
      ∃ t, exec .ldIndCA s = .next t ∧ Stores [(BitVec.ofNat 16 (0xFF00 + (s.getR8 .c).toNat), s.getA)] [] 8 s t)

/-- R155 to R158: the loads and stores at `HL` that then step `HL` by one. -/
def Obligations.LoadAndStoreSteppingHl : Prop :=
  ∀ s : State,
    (encode .ldIndHlIncA = [0x22] ∧ ∃ t, exec .ldIndHlIncA s = .next t ∧ t.hl.toNat = (s.hl.toNat + 1) % 65536 ∧
      Stores [(s.hl, s.getA)] [.h, .l] 8 s t) ∧
    (encode .ldAIndHlInc = [0x2A] ∧ ∃ t, exec .ldAIndHlInc s = .next t ∧ t.getA = s.memRead s.hl ∧
      t.hl.toNat = (s.hl.toNat + 1) % 65536 ∧ Changes [.a, .h, .l] 8 s t) ∧
    (encode .ldIndHlDecA = [0x32] ∧ ∃ t, exec .ldIndHlDecA s = .next t ∧ t.hl.toNat = (s.hl.toNat + 65535) % 65536 ∧
      Stores [(s.hl, s.getA)] [.h, .l] 8 s t) ∧
    (encode .ldAIndHlDec = [0x3A] ∧ ∃ t, exec .ldAIndHlDec s = .next t ∧ t.getA = s.memRead s.hl ∧
      t.hl.toNat = (s.hl.toNat + 65535) % 65536 ∧ Changes [.a, .h, .l] 8 s t)

/-- R171 to R173: `LD rr,nn`, `LD SP,HL`, and `LD (nn),SP`, which stores `SP` as a little-endian word. -/
def Obligations.LoadPairAndStoreStackPointer : Prop :=
  ∀ (s : State) (p : Reg16) (nn : Word),
    (encode (Form.ldPairImm p nn) = [0x01 + 16 * p.code, lowByte nn, highByte nn] ∧
      ∃ t, exec (Form.ldPairImm p nn) s = .next t ∧ t.getR16 p = nn ∧ Changes (pairNames p) 12 s t) ∧
    (encode .ldSpHl = [0xF9] ∧ ∃ t, exec .ldSpHl s = .next t ∧ t.sp = s.hl ∧ Changes [.sp] 8 s t) ∧
    (encode (.ldIndNnSp nn) = [0x08, lowByte nn, highByte nn] ∧
      ∃ t, exec (.ldIndNnSp nn) s = .next t ∧ Stores [(nn, lowByte s.sp), (nn + 1, highByte s.sp)] [] 20 s t)

/-- R174, R233: `LD HL,SP+n` and `ADD SP,n`: the signed sum, and the flags of the unsigned low bytes. -/
def Obligations.OffsetFromStackPointer : Prop :=
  ∀ (s : State) (n : Byte),
    (encode (.ldHlSpN n) = [0xF8, n] ∧
      ∃ t, exec (.ldHlSpN n) s = .next t ∧ t.hl.toNat = (s.sp.toNat + sextNat n) % 65536 ∧
        t.flags = { z := false, n := false, h := decide (s.sp.toNat % 16 + n.toNat % 16 > 0x0F)
                    c := decide (s.sp.toNat % 256 + n.toNat > 0xFF) } ∧ Changes [.h, .l, .f] 12 s t) ∧
    (encode (.addSpN n) = [0xE8, n] ∧
      ∃ t, exec (.addSpN n) s = .next t ∧ t.sp.toNat = (s.sp.toNat + sextNat n) % 65536 ∧
        t.flags = { z := false, n := false, h := decide (s.sp.toNat % 16 + n.toNat % 16 > 0x0F)
                    c := decide (s.sp.toNat % 256 + n.toNat > 0xFF) } ∧ Changes [.sp, .f] 16 s t)

/-- R175: `PUSH rr` stores the pair as a little-endian word at `SP - 2`; the byte of `F` has its low nibble zero. -/
def Obligations.PushStoresThePair : Prop :=
  ∀ (s : State) (q : Stk16), encode (Form.push q) = [0xC5 + 16 * q.code] ∧
    (∃ t, exec (Form.push q) s = .next t ∧ t.sp = s.sp - 2 ∧
      Stores [(s.sp - 2, lowByte (s.getStk16 q)), (s.sp - 2 + 1, highByte (s.getStk16 q))] [.sp] 16 s t) ∧
    s.getStk16 .af = joinBytes s.getF s.getA ∧ lowByte (s.getStk16 .af) &&& 0x0F = 0

/-- R176: `POP rr` loads the pair from the word at `SP`; `POP AF` discards the low nibble and writes all four flags. -/
def Obligations.PopLoadsThePair : Prop :=
  ∀ (s : State) (q : Stk16), let w := joinBytes (s.memRead s.sp) (s.memRead (s.sp + 1))
    encode (Form.pop q) = [0xC1 + 16 * q.code] ∧
    ∃ t, exec (Form.pop q) s = .next t ∧ t.getStk16 q = (if q = .af then w &&& 0xFFF0 else w) ∧ t.sp = s.sp + 2 ∧
      (q = .af → t.flags = Flags.ofByte (s.memRead s.sp)) ∧ Changes (.sp :: stkNames q) 12 s t

/-! ### 8-bit arithmetic and logic -/

/-- R190, R191: the two primitives: the result modulo 256, Z from it, N, H from the low nibbles, C from the whole, the
incoming carry included. -/
def Obligations.AddAndSubtractPrimitives : Prop :=
  ∀ (a b : Byte) (cin : Bool),
    ((add8 a b cin).value.toNat = (a.toNat + b.toNat + cin.toNat) % 256 ∧
      (add8 a b cin).flags = { z := decide ((a.toNat + b.toNat + cin.toNat) % 256 = 0), n := false
                               h := decide (a.toNat % 16 + b.toNat % 16 + cin.toNat > 0x0F)
                               c := decide (a.toNat + b.toNat + cin.toNat > 0xFF) }) ∧
    ((sub8 a b cin).value.toNat = (a.toNat + 512 - b.toNat - cin.toNat) % 256 ∧
      (sub8 a b cin).flags = { z := decide ((a.toNat + 512 - b.toNat - cin.toNat) % 256 = 0), n := true
                               h := decide (a.toNat % 16 < b.toNat % 16 + cin.toNat)
                               c := decide (a.toNat < b.toNat + cin.toNat) })

/-- R192 to R196, R200: `ADD`, `ADC`, `SUB`, `SBC` and `CP` in every operand form; the carry used is the old one; `CP` writes
the flags alone. -/
def Obligations.AccumulatorArithmetic : Prop :=
  ∀ s : State,
    AccForms .add (fun v => add8 s.getA v false) [.a, .f] s ∧ AccForms .adc (fun v => add8 s.getA v s.flags.c) [.a, .f] s ∧
    AccForms .sub (fun v => sub8 s.getA v false) [.a, .f] s ∧ AccForms .sbc (fun v => sub8 s.getA v s.flags.c) [.a, .f] s ∧
    AccForms .cp (fun v => sub8 s.getA v false) [.f] s

/-- R192, R197 to R199: `AND`, `XOR` and `OR` in every operand form: Z from the result, N and C zero, H one for `AND` alone.
-/
def Obligations.AccumulatorLogic : Prop :=
  ∀ s : State,
    AccForms .and (fun v => { value := s.getA &&& v
                              flags := { z := decide (s.getA &&& v = 0), n := false, h := true, c := false } }) [.a, .f] s ∧
    AccForms .xor (fun v => { value := s.getA ^^^ v
                              flags := { z := decide (s.getA ^^^ v = 0), n := false, h := false, c := false } }) [.a, .f] s ∧
    AccForms .or (fun v => { value := s.getA ||| v
                             flags := { z := decide (s.getA ||| v = 0), n := false, h := false, c := false } }) [.a, .f] s

/-- R201 to R204: `INC` and `DEC` of a byte register and of the byte at `HL`: Z, N and H of the result, flag C unchanged. -/
def Obligations.IncrementAndDecrementByte : Prop :=
  ∀ (s : State) (r : Reg8),
    (encode (Form.inc (.reg r)) = [0x04 + 8 * r.code] ∧
      ∃ t, exec (Form.inc (.reg r)) s = .next t ∧ t.getR8 r = s.getR8 r + 1 ∧
        t.flags = { z := decide (s.getR8 r = 0xFF), n := false, h := decide ((s.getR8 r).toNat % 16 = 15), c := s.flags.c } ∧
        Changes [regNameOf r, .f] 4 s t) ∧
    (encode (Form.inc .hlInd) = [0x34] ∧
      ∃ t, exec (Form.inc .hlInd) s = .next t ∧
        t.flags = { z := decide (s.memRead s.hl = 0xFF), n := false, h := decide ((s.memRead s.hl).toNat % 16 = 15)
                    c := s.flags.c } ∧
        Stores [(s.hl, s.memRead s.hl + 1)] [.f] 12 s t) ∧
    (encode (Form.dec (.reg r)) = [0x05 + 8 * r.code] ∧
      ∃ t, exec (Form.dec (.reg r)) s = .next t ∧ t.getR8 r = s.getR8 r - 1 ∧
        t.flags = { z := decide (s.getR8 r = 0x01), n := true, h := decide ((s.getR8 r).toNat % 16 = 0), c := s.flags.c } ∧
        Changes [regNameOf r, .f] 4 s t) ∧
    (encode (Form.dec .hlInd) = [0x35] ∧
      ∃ t, exec (Form.dec .hlInd) s = .next t ∧
        t.flags = { z := decide (s.memRead s.hl = 0x01), n := true, h := decide ((s.memRead s.hl).toNat % 16 = 0)
                    c := s.flags.c } ∧
        Stores [(s.hl, s.memRead s.hl - 1)] [.f] 12 s t)

/-- R205: `DAA`, as the spec's pseudocode computes it. -/
def Obligations.DecimalAdjust : Prop :=
  ∀ s : State, let a := s.getA.toNat
    encode .daa = [0x27] ∧
    ∃ t, exec .daa s = .next t ∧ Changes [.a, .f] 4 s t ∧
      t.flags.z = decide (t.getA = 0) ∧ t.flags.n = s.flags.n ∧ t.flags.h = false ∧
      (s.flags.n = false →
        t.getA.toNat = (a + (if s.flags.h = true ∨ a % 16 > 0x09 then 0x06 else 0)
          + (if s.flags.c = true ∨ a > 0x99 then 0x60 else 0)) % 256 ∧
        t.flags.c = decide (s.flags.c = true ∨ a > 0x99)) ∧
      (s.flags.n = true →
        t.getA.toNat = (a + 256 - (if s.flags.h = true then 0x06 else 0) - (if s.flags.c = true then 0x60 else 0)) % 256 ∧
        t.flags.c = s.flags.c)

/-- R205: `DAA` after an addition or a subtraction of packed BCD bytes gives the packed BCD sum or difference modulo 100, and
flag C the decimal carry or borrow. -/
def Obligations.DecimalAdjustMakesBcd : Prop :=
  ∀ (s : State) (y : Byte), IsBcd s.getA → IsBcd y →
    (∃ t u, exec (.addAN y) s = .next t ∧ exec .daa t = .next u ∧ IsBcd u.getA ∧
      bcdValue u.getA = (bcdValue s.getA + bcdValue y) % 100 ∧ u.flags.c = decide (bcdValue s.getA + bcdValue y > 99)) ∧
    (∃ t u, exec (.subAN y) s = .next t ∧ exec .daa t = .next u ∧ IsBcd u.getA ∧
      bcdValue u.getA = (bcdValue s.getA + 100 - bcdValue y) % 100 ∧ u.flags.c = decide (bcdValue s.getA < bcdValue y))

/-- R206 to R208: `CPL`, `SCF` and `CCF`. -/
def Obligations.ComplementAndCarryFlag : Prop :=
  ∀ s : State,
    (encode .cpl = [0x2F] ∧ ∃ t, exec .cpl s = .next t ∧ t.getA.toNat = 255 - s.getA.toNat ∧
      t.flags = { z := s.flags.z, n := true, h := true, c := s.flags.c } ∧ Changes [.a, .f] 4 s t) ∧
    (encode .scf = [0x37] ∧ ∃ t, exec .scf s = .next t ∧
      t.flags = { z := s.flags.z, n := false, h := false, c := true } ∧ Changes [.f] 4 s t) ∧
    (encode .ccf = [0x3F] ∧ ∃ t, exec .ccf s = .next t ∧
      t.flags = { z := s.flags.z, n := false, h := false, c := !s.flags.c } ∧ Changes [.f] 4 s t)

/-! ### 16-bit arithmetic -/

/-- R230: `ADD HL,rr`: the sum modulo 65536, Z unchanged, N zero, H the carry out of bit 11, C out of bit 15. -/
def Obligations.AddPairToHl : Prop :=
  ∀ (s : State) (p : Reg16), let x := s.hl.toNat
    let v := (s.getR16 p).toNat
    encode (Form.addHlPair p) = [0x09 + 16 * p.code] ∧
    ∃ t, exec (Form.addHlPair p) s = .next t ∧ t.hl.toNat = (x + v) % 65536 ∧
      t.flags = { z := s.flags.z, n := false, h := decide (x % 4096 + v % 4096 > 0x0FFF), c := decide (x + v > 0xFFFF) } ∧
      Changes [.h, .l, .f] 8 s t

/-- R231, R232: `INC rr` and `DEC rr` modulo 65536, no flag. -/
def Obligations.IncrementAndDecrementPair : Prop :=
  ∀ (s : State) (p : Reg16),
    (encode (Form.incPair p) = [0x03 + 16 * p.code] ∧
      ∃ t, exec (Form.incPair p) s = .next t ∧ (t.getR16 p).toNat = ((s.getR16 p).toNat + 1) % 65536 ∧
        Changes (pairNames p) 8 s t) ∧
    (encode (Form.decPair p) = [0x0B + 16 * p.code] ∧
      ∃ t, exec (Form.decPair p) s = .next t ∧ (t.getR16 p).toNat = ((s.getR16 p).toNat + 65535) % 65536 ∧
        Changes (pairNames p) 8 s t)

/-! ### Rotates, shifts and bits -/

/-- R241 to R244: `RLCA`, `RRCA`, `RLA`, `RRA`: flag C the bit moved out, Z, N and H zero. -/
def Obligations.AccumulatorRotates : Prop :=
  ∀ s : State, ∀ e ∈ ([(.rlca, .rlc, 0x07), (.rrca, .rrc, 0x0F), (.rla, .rl, 0x17), (.rra, .rr, 0x1F)]
      : List (Instr × RotOp × Byte)),
    encode e.1 = [e.2.2] ∧
    ∃ t, exec e.1 s = .next t ∧ t.getA.toNat = rotNat e.2.1 s.getA.toNat s.flags.c ∧
      t.flags = { z := false, n := false, h := false, c := rotOut e.2.1 s.getA.toNat } ∧ Changes [.a, .f] 4 s t

/-- R240, R245 to R252: the rotates, shifts and swap of the extended table on a register and on the byte at `HL`: Z from the
result, N and H zero, flag C the bit moved out. -/
def Obligations.ExtendedRotates : Prop :=
  ∀ (s : State) (op : RotOp) (r : Reg8),
    (encode (Form.rot op (.reg r)) = [0xCB, 8 * op.code + r.code] ∧
      ∃ t, exec (Form.rot op (.reg r)) s = .next t ∧ (t.getR8 r).toNat = rotNat op (s.getR8 r).toNat s.flags.c ∧
        t.flags = { z := decide (rotNat op (s.getR8 r).toNat s.flags.c = 0), n := false, h := false
                    c := rotOut op (s.getR8 r).toNat } ∧
        Changes [regNameOf r, .f] 8 s t) ∧
    (encode (Form.rot op .hlInd) = [0xCB, 8 * op.code + 6] ∧
      ∃ t, exec (Form.rot op .hlInd) s = .next t ∧
        t.flags = { z := decide (rotNat op (s.memRead s.hl).toNat s.flags.c = 0), n := false, h := false
                    c := rotOut op (s.memRead s.hl).toNat } ∧
        Stores [(s.hl, BitVec.ofNat 8 (rotNat op (s.memRead s.hl).toNat s.flags.c))] [.f] 16 s t)

/-- R240, R253: `BIT b` on every operand: Z the complement of the bit, N zero, H one, flag C unchanged, nothing written. -/
def Obligations.BitTest : Prop :=
  ∀ (s : State) (b : Fin 8) (o : Operand8),
    encode (Form.bit b o) = [0xCB, BitVec.ofNat 8 (0x40 + 8 * b.val) + o.code] ∧
    ∃ t, exec (Form.bit b o) s = .next t ∧
      t.flags = { z := !(s.readOperand o).getLsbD b.val, n := false, h := true, c := s.flags.c } ∧
      Changes [.f] (operandCost o 8 12) s t

/-- R240, R254, R255: `RES b` and `SET b` on a register and on the byte at `HL`: one bit cleared or set, no flag. -/
def Obligations.BitClearAndSet : Prop :=
  ∀ (s : State) (b : Fin 8) (r : Reg8),
    (encode (Form.res b (.reg r)) = [0xCB, BitVec.ofNat 8 (0x80 + 8 * b.val) + r.code] ∧
      ∃ t, exec (Form.res b (.reg r)) s = .next t ∧
        (∀ k : Nat, (t.getR8 r).getLsbD k = ((s.getR8 r).getLsbD k && decide (k ≠ b.val))) ∧ Changes [regNameOf r] 8 s t) ∧
    (encode (Form.res b .hlInd) = [0xCB, BitVec.ofNat 8 (0x80 + 8 * b.val) + 6] ∧
      ∃ t, exec (Form.res b .hlInd) s = .next t ∧ Stores [(s.hl, s.memRead s.hl &&& ~~~(1#8 <<< b.val))] [] 16 s t) ∧
    (encode (Form.set b (.reg r)) = [0xCB, BitVec.ofNat 8 (0xC0 + 8 * b.val) + r.code] ∧
      ∃ t, exec (Form.set b (.reg r)) s = .next t ∧
        (∀ k : Nat, (t.getR8 r).getLsbD k = ((s.getR8 r).getLsbD k || decide (k = b.val))) ∧ Changes [regNameOf r] 8 s t) ∧
    (encode (Form.set b .hlInd) = [0xCB, BitVec.ofNat 8 (0xC0 + 8 * b.val) + 6] ∧
      ∃ t, exec (Form.set b .hlInd) s = .next t ∧ Stores [(s.hl, s.memRead s.hl ||| (1#8 <<< b.val))] [] 16 s t)

/-! ### Control transfer -/

/-- R270 to R275: the jumps. A condition reads the flags as they are; a jump not taken leaves `PC` after the instruction and
costs less; a relative target is `PC` after the instruction plus the signed offset. -/
def Obligations.Jumps : Prop :=
  ∀ (s : State) (cc : Cond) (n : Byte) (nn : Word),
    (s.cond .nz = !s.flags.z ∧ s.cond .z = s.flags.z ∧ s.cond .nc = !s.flags.c ∧ s.cond .c = s.flags.c) ∧
    (encode (.jpNn nn) = [0xC3, lowByte nn, highByte nn] ∧
      ∃ t, exec (.jpNn nn) s = .next t ∧ t.pc = nn ∧ Changes [.pc] 16 s t) ∧
    (encode (Form.jpCond cc nn) = [0xC2 + 8 * cc.code, lowByte nn, highByte nn] ∧
      ∃ t, exec (Form.jpCond cc nn) s = .next t ∧ t.pc = (if s.cond cc = true then nn else s.pc) ∧
        Changes [.pc] (if s.cond cc = true then 16 else 12) s t) ∧
    (encode .jpHl = [0xE9] ∧ ∃ t, exec .jpHl s = .next t ∧ t.pc = s.hl ∧ Changes [.pc] 4 s t) ∧
    (encode (.jrN n) = [0x18, n] ∧
      ∃ t, exec (.jrN n) s = .next t ∧ t.pc.toNat = (s.pc.toNat + sextNat n) % 65536 ∧ Changes [.pc] 12 s t) ∧
    (encode (Form.jrCond cc n) = [0x20 + 8 * cc.code, n] ∧
      ∃ t, exec (Form.jrCond cc n) s = .next t ∧
        t.pc.toNat = (if s.cond cc = true then (s.pc.toNat + sextNat n) % 65536 else s.pc.toNat) ∧
        Changes [.pc] (if s.cond cc = true then 12 else 8) s t)

/-- R276, R277, R281: `CALL nn`, `CALL cc,nn` and `RST t` push `PC`, the address after the instruction, and go to the target;
a call not taken pushes nothing and moves neither `SP` nor `PC`. -/
def Obligations.CallsAndRestarts : Prop :=
  ∀ (s : State) (cc : Cond) (y : Fin 8) (nn : Word),
    (encode (.callNn nn) = [0xCD, lowByte nn, highByte nn] ∧
      ∃ t, exec (.callNn nn) s = .next t ∧ t.pc = nn ∧ t.sp = s.sp - 2 ∧
        Stores [(s.sp - 2, lowByte s.pc), (s.sp - 2 + 1, highByte s.pc)] [.sp, .pc] 24 s t) ∧
    (encode (Form.callCond cc nn) = [0xC4 + 8 * cc.code, lowByte nn, highByte nn] ∧
      ∃ t, exec (Form.callCond cc nn) s = .next t ∧
        (s.cond cc = true → t.pc = nn ∧ t.sp = s.sp - 2 ∧
          Stores [(s.sp - 2, lowByte s.pc), (s.sp - 2 + 1, highByte s.pc)] [.sp, .pc] 24 s t) ∧
        (s.cond cc = false → Changes [] 12 s t)) ∧
    (encode (Form.rst y) = [BitVec.ofNat 8 (0xC7 + 8 * y.val)] ∧
      ∃ t, exec (Form.rst y) s = .next t ∧ t.pc.toNat = 8 * y.val ∧ t.sp = s.sp - 2 ∧
        Stores [(s.sp - 2, lowByte s.pc), (s.sp - 2 + 1, highByte s.pc)] [.sp, .pc] 16 s t)

/-- R278 to R280: `RET`, `RET cc` and `RETI` pop `PC`; a return not taken moves neither `SP` nor `PC`; `RETI` also sets `IME`
and restores no other register. -/
def Obligations.Returns : Prop :=
  ∀ (s : State) (cc : Cond), let w := joinBytes (s.memRead s.sp) (s.memRead (s.sp + 1))
    (encode .ret = [0xC9] ∧ ∃ t, exec .ret s = .next t ∧ t.pc = w ∧ t.sp = s.sp + 2 ∧ Changes [.sp, .pc] 16 s t) ∧
    (encode (Form.retCond cc) = [0xC0 + 8 * cc.code] ∧
      ∃ t, exec (Form.retCond cc) s = .next t ∧
        (s.cond cc = true → t.pc = w ∧ t.sp = s.sp + 2 ∧ Changes [.sp, .pc] 20 s t) ∧
        (s.cond cc = false → Changes [] 8 s t)) ∧
    (encode .reti = [0xD9] ∧
      ∃ t, exec .reti s = .next t ∧ t.pc = w ∧ t.sp = s.sp + 2 ∧ ChangesControl [.sp, .pc] true s.mode 16 s t)

/-! ### System -/

/-- R290 to R294: `NOP`, `HALT`, `STOP`, `DI` and `EI`: the mode or `IME` and nothing else. -/
def Obligations.SystemInstructions : Prop :=
  ∀ (s : State) (n : Byte),
    (encode .nop = [0x00] ∧ ∃ t, exec .nop s = .next t ∧ Changes [] 4 s t) ∧
    (encode .halt = [0x76] ∧ ∃ t, exec .halt s = .next t ∧ ChangesControl [] s.ime .halted 4 s t) ∧
    (encode (.stop n) = [0x10, n] ∧ ∃ t, exec (.stop n) s = .next t ∧ ChangesControl [] s.ime .stopped 4 s t) ∧
    (encode .di = [0xF3] ∧ ∃ t, exec .di s = .next t ∧ ChangesControl [] false s.mode 4 s t) ∧
    (encode .ei = [0xFB] ∧ ∃ t, exec .ei s = .next t ∧ ChangesControl [] true s.mode 4 s t)
end

