-- ==== Sys2Proof/Laws/Exec.lean ====
section
/-! SUPPORT. The meaning of every instruction form that a table of the spec spans, as one equation over its operands. -/
namespace Sys2Proof.Machine

theorem exec_ldRegReg (dst src : Reg8) (s : State) : exec (Form.ldRegReg dst src) s = loadReg dst (s.getR8 src) 4 s := by
  cases dst <;> cases src <;> rfl

theorem exec_ldRegImm (dst : Reg8) (n : Byte) (s : State) : exec (Form.ldRegImm dst n) s = loadReg dst n 8 s := by
  cases dst <;> rfl

theorem exec_ldRegInd (dst : Reg8) (s : State) : exec (Form.ldRegInd dst) s = loadReg dst (s.memRead s.hl) 8 s := by
  cases dst <;> rfl

theorem exec_ldIndReg (src : Reg8) (s : State) : exec (Form.ldIndReg src) s = storeByte s.hl (s.getR8 src) 8 s := by
  cases src <;> rfl

theorem exec_ldPairImm (p : Reg16) (nn : Word) (s : State) : exec (Form.ldPairImm p nn) s = loadPair p nn 12 s := by
  cases p <;> rfl

theorem exec_push (q : Stk16) (s : State) : exec (Form.push q) s = pushPair q s := by cases q <;> rfl

theorem exec_pop (q : Stk16) (s : State) : exec (Form.pop q) s = popPair q s := by cases q <;> rfl

theorem exec_addHlPair (p : Reg16) (s : State) : exec (Form.addHlPair p) s = addHl p s := by cases p <;> rfl

theorem exec_incPair (p : Reg16) (s : State) : exec (Form.incPair p) s = addPair p 1 s := by cases p <;> rfl

theorem exec_decPair (p : Reg16) (s : State) : exec (Form.decPair p) s = addPair p (-1) s := by cases p <;> rfl

theorem exec_inc (o : Operand8) (s : State) : exec (Form.inc o) s = incOperand o s := by
  rcases o with r | _
  · cases r <;> rfl
  · rfl

theorem exec_dec (o : Operand8) (s : State) : exec (Form.dec o) s = decOperand o s := by
  rcases o with r | _
  · cases r <;> rfl
  · rfl

theorem exec_alu (op : AluOp) (o : Operand8) (s : State) :
    exec (Form.alu op o) s = aluAcc op (s.readOperand o) (operandCost o 4 8) s := by
  rcases o with r | _
  · cases op <;> cases r <;> rfl
  · cases op <;> rfl

theorem exec_aluImm (op : AluOp) (n : Byte) (s : State) : exec (Form.aluImm op n) s = aluAcc op n 8 s := by
  cases op <;> rfl

theorem exec_rot (op : RotOp) (o : Operand8) (s : State) : exec (Form.rot op o) s = rotOperand op o s := by
  rcases o with r | _
  · cases op <;> cases r <;> rfl
  · cases op <;> rfl

/-- A statement about each of eight values, by its value at each. -/
theorem forall_fin8 {P : Fin 8 → Prop} (h0 : P 0) (h1 : P 1) (h2 : P 2) (h3 : P 3) (h4 : P 4) (h5 : P 5) (h6 : P 6) (h7 : P 7)
    (b : Fin 8) : P b := by
  match b with
  | 0 => exact h0
  | 1 => exact h1
  | 2 => exact h2
  | 3 => exact h3
  | 4 => exact h4
  | 5 => exact h5
  | 6 => exact h6
  | 7 => exact h7

theorem exec_bit (b : Fin 8) (o : Operand8) (s : State) : exec (Form.bit b o) s = bitOperand b o s := by
  revert b
  rcases o with r | _
  · cases r <;> exact forall_fin8 rfl rfl rfl rfl rfl rfl rfl rfl
  · exact forall_fin8 rfl rfl rfl rfl rfl rfl rfl rfl

theorem exec_res (b : Fin 8) (o : Operand8) (s : State) : exec (Form.res b o) s = resOperand b o s := by
  revert b
  rcases o with r | _
  · cases r <;> exact forall_fin8 rfl rfl rfl rfl rfl rfl rfl rfl
  · exact forall_fin8 rfl rfl rfl rfl rfl rfl rfl rfl

theorem exec_set (b : Fin 8) (o : Operand8) (s : State) : exec (Form.set b o) s = setOperand b o s := by
  revert b
  rcases o with r | _
  · cases r <;> exact forall_fin8 rfl rfl rfl rfl rfl rfl rfl rfl
  · exact forall_fin8 rfl rfl rfl rfl rfl rfl rfl rfl

theorem exec_jpCond (cc : Cond) (nn : Word) (s : State) : exec (Form.jpCond cc nn) s = jumpIf cc nn 12 16 s := by
  cases cc <;> rfl

theorem exec_jrCond (cc : Cond) (n : Byte) (s : State) : exec (Form.jrCond cc n) s = jumpIf cc (relTarget s.pc n) 8 12 s := by
  cases cc <;> rfl

theorem exec_callCond (cc : Cond) (nn : Word) (s : State) : exec (Form.callCond cc nn) s = callIf cc nn s := by
  cases cc <;> rfl

theorem exec_retCond (cc : Cond) (s : State) : exec (Form.retCond cc) s = returnIf cc s := by cases cc <;> rfl

theorem exec_rst (y : Fin 8) (s : State) : exec (Form.rst y) s = callTo (rstTarget y) 16 s := by
  revert y
  exact forall_fin8 rfl rfl rfl rfl rfl rfl rfl rfl

/-- The prefix entry runs the extended entry it selects (R120, R295). -/
theorem exec_prefixCb (xop : Byte) (s : State) : exec (.prefixCb xop) s = exec (decodeExtended xop) s := by
  show execPrefixCb xop s = exec (decodeExtended xop) s
  unfold execPrefixCb decodeExtended
  generalize fieldX xop = x
  match x with
  | 0 => exact (exec_rot _ _ s).symm
  | 1 => exact (exec_bit _ _ s).symm
  | 2 => exact (exec_res _ _ s).symm
  | 3 => exact (exec_set _ _ s).symm

end Sys2Proof.Machine
end

