-- ==== Sys2Proof/Laws/Cases.lean ====
section
/-! SUPPORT. The case split over all instructions, said once: what holds of every shared operation's outcome holds of every
instruction's outcome. -/
namespace Sys2Proof.Machine

/-- Once for all: every instruction's outcome is one of these; the six control instructions are named. -/
theorem exec_cases {P : Instr → Result → Prop} (s : State)
    (loadReg : ∀ i dst v c, P i (loadReg dst v c s))
    (storeByte : ∀ i a v c, P i (storeByte a v c s))
    (loadStep : ∀ i k, P i (loadStep k s))
    (storeStep : ∀ i k, P i (storeStep k s))
    (loadPair : ∀ i p w c, P i (loadPair p w c s))
    (spOffset : ∀ i p n c, P i (spOffset p n c s))
    (storeSp : ∀ i a, P i (.next ((s.memWrite16 a s.sp).charge 20)))
    (pushPair : ∀ i q, P i (pushPair q s))
    (popPair : ∀ i q, P i (popPair q s))
    (addHl : ∀ i p, P i (addHl p s))
    (addPair : ∀ i p k, P i (addPair p k s))
    (aluAcc : ∀ i op v c, P i (aluAcc op v c s))
    (incOperand : ∀ i o, P i (incOperand o s))
    (decOperand : ∀ i o, P i (decOperand o s))
    (adjustAcc : ∀ i r, P i (adjustAcc r s))
    (setFlags : ∀ i f, P i (.next ((s.setFlags f).charge 4)))
    (rotAcc : ∀ i op, P i (rotAcc op s))
    (rotOperand : ∀ i op o, P i (rotOperand op o s))
    (bitOperand : ∀ i b o, P i (bitOperand b o s))
    (resOperand : ∀ i b o, P i (resOperand b o s))
    (setOperand : ∀ i b o, P i (setOperand b o s))
    (jumpTo : ∀ i t c, P i (jumpTo t c s))
    (jumpIf : ∀ i cc t b k, P i (jumpIf cc t b k s))
    (callTo : ∀ i t c, P i (callTo t c s))
    (callIf : ∀ i cc t, P i (callIf cc t s))
    (returnCharged : ∀ i c, P i (returnCharged c s))
    (returnIf : ∀ i cc, P i (returnIf cc s))
    (reti : P .reti (.next (s.returnFromInterrupt.charge 16)))
    (nop : P .nop (.next (s.charge 4)))
    (halt : P .halt (.next ({ s with mode := .halted }.charge 4)))
    (stop : ∀ n, P (.stop n) (.next ({ s with mode := .stopped }.charge 4)))
    (di : P .di (.next ({ s with ime := false }.charge 4)))
    (ei : P .ei (.next ({ s with ime := true }.charge 4)))
    (illegal : ∀ b, P (.illegal b) (s.raiseFatal (.removedOpcode b)))
    (i : Instr) : P i (exec i s) := by
  cases i with
  | ldBN _ => exact loadReg _ _ _ _
  | ldCN _ => exact loadReg _ _ _ _
  | ldDN _ => exact loadReg _ _ _ _
  | ldEN _ => exact loadReg _ _ _ _
  | ldHN _ => exact loadReg _ _ _ _
  | ldLN _ => exact loadReg _ _ _ _
  | ldIndHlN _ => exact storeByte _ _ _ _
  | ldAN _ => exact loadReg _ _ _ _
  | ldhIndNA _ => exact storeByte _ _ _ _
  | ldIndNnA _ => exact storeByte _ _ _ _
  | ldhAIndN _ => exact loadReg _ _ _ _
  | ldAIndNn _ => exact loadReg _ _ _ _
  | ldBcNn _ => exact loadPair _ _ _ _
  | ldIndNnSp _ => exact storeSp _ _
  | ldDeNn _ => exact loadPair _ _ _ _
  | ldHlNn _ => exact loadPair _ _ _ _
  | ldSpNn _ => exact loadPair _ _ _ _
  | ldHlSpN _ => exact spOffset _ _ _ _
  | addAN n => exact aluAcc _ .add n 8
  | adcAN n => exact aluAcc _ .adc n 8
  | subAN n => exact aluAcc _ .sub n 8
  | sbcAN n => exact aluAcc _ .sbc n 8
  | andAN n => exact aluAcc _ .and n 8
  | xorAN n => exact aluAcc _ .xor n 8
  | orAN n => exact aluAcc _ .or n 8
  | cpAN n => exact aluAcc _ .cp n 8
  | addSpN _ => exact spOffset _ _ _ _
  | jrN _ => exact jumpTo _ _ _
  | jrNzN _ => exact jumpIf _ _ _ _ _
  | jrZN _ => exact jumpIf _ _ _ _ _
  | jrNcN _ => exact jumpIf _ _ _ _ _
  | jrCN _ => exact jumpIf _ _ _ _ _
  | jpNzNn _ => exact jumpIf _ _ _ _ _
  | jpNn _ => exact jumpTo _ _ _
  | callNzNn _ => exact callIf _ _ _
  | jpZNn _ => exact jumpIf _ _ _ _ _
  | callZNn _ => exact callIf _ _ _
  | callNn _ => exact callTo _ _ _
  | jpNcNn _ => exact jumpIf _ _ _ _ _
  | callNcNn _ => exact callIf _ _ _
  | jpCNn _ => exact jumpIf _ _ _ _ _
  | callCNn _ => exact callIf _ _ _
  | stop _ => exact stop _
  | prefixCb xop =>
    show P (.prefixCb xop) (execPrefixCb xop s)
    unfold execPrefixCb
    split
    · exact rotOperand _ _ _
    · exact bitOperand _ _ _
    · exact resOperand _ _ _
    · exact setOperand _ _ _
  | illegal _ => exact illegal _
  | ldIndBcA => exact storeByte _ _ _ _
  | ldAIndBc => exact loadReg _ _ _ _
  | ldIndDeA => exact storeByte _ _ _ _
  | ldAIndDe => exact loadReg _ _ _ _
  | ldIndHlIncA => exact storeStep _ _
  | ldAIndHlInc => exact loadStep _ _
  | ldIndHlDecA => exact storeStep _ _
  | ldAIndHlDec => exact loadStep _ _
  | ldBB => exact loadReg _ _ _ _
  | ldBC => exact loadReg _ _ _ _
  | ldBD => exact loadReg _ _ _ _
  | ldBE => exact loadReg _ _ _ _
  | ldBH => exact loadReg _ _ _ _
  | ldBL => exact loadReg _ _ _ _
  | ldBIndHl => exact loadReg _ _ _ _
  | ldBA => exact loadReg _ _ _ _
  | ldCB => exact loadReg _ _ _ _
  | ldCC => exact loadReg _ _ _ _
  | ldCD => exact loadReg _ _ _ _
  | ldCE => exact loadReg _ _ _ _
  | ldCH => exact loadReg _ _ _ _
  | ldCL => exact loadReg _ _ _ _
  | ldCIndHl => exact loadReg _ _ _ _
  | ldCA => exact loadReg _ _ _ _
  | ldDB => exact loadReg _ _ _ _
  | ldDC => exact loadReg _ _ _ _
  | ldDD => exact loadReg _ _ _ _
  | ldDE => exact loadReg _ _ _ _
  | ldDH => exact loadReg _ _ _ _
  | ldDL => exact loadReg _ _ _ _
  | ldDIndHl => exact loadReg _ _ _ _
  | ldDA => exact loadReg _ _ _ _
  | ldEB => exact loadReg _ _ _ _
  | ldEC => exact loadReg _ _ _ _
  | ldED => exact loadReg _ _ _ _
  | ldEE => exact loadReg _ _ _ _
  | ldEH => exact loadReg _ _ _ _
  | ldEL => exact loadReg _ _ _ _
  | ldEIndHl => exact loadReg _ _ _ _
  | ldEA => exact loadReg _ _ _ _
  | ldHB => exact loadReg _ _ _ _
  | ldHC => exact loadReg _ _ _ _
  | ldHD => exact loadReg _ _ _ _
  | ldHE => exact loadReg _ _ _ _
  | ldHH => exact loadReg _ _ _ _
  | ldHL => exact loadReg _ _ _ _
  | ldHIndHl => exact loadReg _ _ _ _
  | ldHA => exact loadReg _ _ _ _
  | ldLB => exact loadReg _ _ _ _
  | ldLC => exact loadReg _ _ _ _
  | ldLD => exact loadReg _ _ _ _
  | ldLE => exact loadReg _ _ _ _
  | ldLH => exact loadReg _ _ _ _
  | ldLL => exact loadReg _ _ _ _
  | ldLIndHl => exact loadReg _ _ _ _
  | ldLA => exact loadReg _ _ _ _
  | ldIndHlB => exact storeByte _ _ _ _
  | ldIndHlC => exact storeByte _ _ _ _
  | ldIndHlD => exact storeByte _ _ _ _
  | ldIndHlE => exact storeByte _ _ _ _
  | ldIndHlH => exact storeByte _ _ _ _
  | ldIndHlL => exact storeByte _ _ _ _
  | ldIndHlA => exact storeByte _ _ _ _
  | ldAB => exact loadReg _ _ _ _
  | ldAC => exact loadReg _ _ _ _
  | ldAD => exact loadReg _ _ _ _
  | ldAE => exact loadReg _ _ _ _
  | ldAH => exact loadReg _ _ _ _
  | ldAL => exact loadReg _ _ _ _
  | ldAIndHl => exact loadReg _ _ _ _
  | ldAA => exact loadReg _ _ _ _
  | ldIndCA => exact storeByte _ _ _ _
  | ldAIndC => exact loadReg _ _ _ _
  | popBc => exact popPair _ _
  | pushBc => exact pushPair _ _
  | popDe => exact popPair _ _
  | pushDe => exact pushPair _ _
  | popHl => exact popPair _ _
  | pushHl => exact pushPair _ _
  | popAf => exact popPair _ _
  | pushAf => exact pushPair _ _
  | ldSpHl => exact loadPair _ _ _ _
  | incB => exact incOperand _ _
  | decB => exact decOperand _ _
  | incC => exact incOperand _ _
  | decC => exact decOperand _ _
  | incD => exact incOperand _ _
  | decD => exact decOperand _ _
  | incE => exact incOperand _ _
  | decE => exact decOperand _ _
  | incH => exact incOperand _ _
  | decH => exact decOperand _ _
  | daa => exact adjustAcc _ _
  | incL => exact incOperand _ _
  | decL => exact decOperand _ _
  | cpl => exact adjustAcc _ _
  | incIndHl => exact incOperand _ _
  | decIndHl => exact decOperand _ _
  | scf => exact setFlags _ _
  | incA => exact incOperand _ _
  | decA => exact decOperand _ _
  | ccf => exact setFlags _ _
  | addAB => exact aluAcc _ .add (s.readOperand (.reg .b)) 4
  | addAC => exact aluAcc _ .add (s.readOperand (.reg .c)) 4
  | addAD => exact aluAcc _ .add (s.readOperand (.reg .d)) 4
  | addAE => exact aluAcc _ .add (s.readOperand (.reg .e)) 4
  | addAH => exact aluAcc _ .add (s.readOperand (.reg .h)) 4
  | addAL => exact aluAcc _ .add (s.readOperand (.reg .l)) 4
  | addAIndHl => exact aluAcc _ .add (s.readOperand .hlInd) 8
  | addAA => exact aluAcc _ .add (s.readOperand (.reg .a)) 4
  | adcAB => exact aluAcc _ .adc (s.readOperand (.reg .b)) 4
  | adcAC => exact aluAcc _ .adc (s.readOperand (.reg .c)) 4
  | adcAD => exact aluAcc _ .adc (s.readOperand (.reg .d)) 4
  | adcAE => exact aluAcc _ .adc (s.readOperand (.reg .e)) 4
  | adcAH => exact aluAcc _ .adc (s.readOperand (.reg .h)) 4
  | adcAL => exact aluAcc _ .adc (s.readOperand (.reg .l)) 4
  | adcAIndHl => exact aluAcc _ .adc (s.readOperand .hlInd) 8
  | adcAA => exact aluAcc _ .adc (s.readOperand (.reg .a)) 4
  | subAB => exact aluAcc _ .sub (s.readOperand (.reg .b)) 4
  | subAC => exact aluAcc _ .sub (s.readOperand (.reg .c)) 4
  | subAD => exact aluAcc _ .sub (s.readOperand (.reg .d)) 4
  | subAE => exact aluAcc _ .sub (s.readOperand (.reg .e)) 4
  | subAH => exact aluAcc _ .sub (s.readOperand (.reg .h)) 4
  | subAL => exact aluAcc _ .sub (s.readOperand (.reg .l)) 4
  | subAIndHl => exact aluAcc _ .sub (s.readOperand .hlInd) 8
  | subAA => exact aluAcc _ .sub (s.readOperand (.reg .a)) 4
  | sbcAB => exact aluAcc _ .sbc (s.readOperand (.reg .b)) 4
  | sbcAC => exact aluAcc _ .sbc (s.readOperand (.reg .c)) 4
  | sbcAD => exact aluAcc _ .sbc (s.readOperand (.reg .d)) 4
  | sbcAE => exact aluAcc _ .sbc (s.readOperand (.reg .e)) 4
  | sbcAH => exact aluAcc _ .sbc (s.readOperand (.reg .h)) 4
  | sbcAL => exact aluAcc _ .sbc (s.readOperand (.reg .l)) 4
  | sbcAIndHl => exact aluAcc _ .sbc (s.readOperand .hlInd) 8
  | sbcAA => exact aluAcc _ .sbc (s.readOperand (.reg .a)) 4
  | andAB => exact aluAcc _ .and (s.readOperand (.reg .b)) 4
  | andAC => exact aluAcc _ .and (s.readOperand (.reg .c)) 4
  | andAD => exact aluAcc _ .and (s.readOperand (.reg .d)) 4
  | andAE => exact aluAcc _ .and (s.readOperand (.reg .e)) 4
  | andAH => exact aluAcc _ .and (s.readOperand (.reg .h)) 4
  | andAL => exact aluAcc _ .and (s.readOperand (.reg .l)) 4
  | andAIndHl => exact aluAcc _ .and (s.readOperand .hlInd) 8
  | andAA => exact aluAcc _ .and (s.readOperand (.reg .a)) 4
  | xorAB => exact aluAcc _ .xor (s.readOperand (.reg .b)) 4
  | xorAC => exact aluAcc _ .xor (s.readOperand (.reg .c)) 4
  | xorAD => exact aluAcc _ .xor (s.readOperand (.reg .d)) 4
  | xorAE => exact aluAcc _ .xor (s.readOperand (.reg .e)) 4
  | xorAH => exact aluAcc _ .xor (s.readOperand (.reg .h)) 4
  | xorAL => exact aluAcc _ .xor (s.readOperand (.reg .l)) 4
  | xorAIndHl => exact aluAcc _ .xor (s.readOperand .hlInd) 8
  | xorAA => exact aluAcc _ .xor (s.readOperand (.reg .a)) 4
  | orAB => exact aluAcc _ .or (s.readOperand (.reg .b)) 4
  | orAC => exact aluAcc _ .or (s.readOperand (.reg .c)) 4
  | orAD => exact aluAcc _ .or (s.readOperand (.reg .d)) 4
  | orAE => exact aluAcc _ .or (s.readOperand (.reg .e)) 4
  | orAH => exact aluAcc _ .or (s.readOperand (.reg .h)) 4
  | orAL => exact aluAcc _ .or (s.readOperand (.reg .l)) 4
  | orAIndHl => exact aluAcc _ .or (s.readOperand .hlInd) 8
  | orAA => exact aluAcc _ .or (s.readOperand (.reg .a)) 4
  | cpAB => exact aluAcc _ .cp (s.readOperand (.reg .b)) 4
  | cpAC => exact aluAcc _ .cp (s.readOperand (.reg .c)) 4
  | cpAD => exact aluAcc _ .cp (s.readOperand (.reg .d)) 4
  | cpAE => exact aluAcc _ .cp (s.readOperand (.reg .e)) 4
  | cpAH => exact aluAcc _ .cp (s.readOperand (.reg .h)) 4
  | cpAL => exact aluAcc _ .cp (s.readOperand (.reg .l)) 4
  | cpAIndHl => exact aluAcc _ .cp (s.readOperand .hlInd) 8
  | cpAA => exact aluAcc _ .cp (s.readOperand (.reg .a)) 4
  | incBc => exact addPair _ _ _
  | addHlBc => exact addHl _ _
  | decBc => exact addPair _ _ _
  | incDe => exact addPair _ _ _
  | addHlDe => exact addHl _ _
  | decDe => exact addPair _ _ _
  | incHl => exact addPair _ _ _
  | addHlHl => exact addHl _ _
  | decHl => exact addPair _ _ _
  | incSp => exact addPair _ _ _
  | addHlSp => exact addHl _ _
  | decSp => exact addPair _ _ _
  | rlca => exact rotAcc _ _
  | rrca => exact rotAcc _ _
  | rla => exact rotAcc _ _
  | rra => exact rotAcc _ _
  | rlcB => exact rotOperand _ _ _
  | rlcC => exact rotOperand _ _ _
  | rlcD => exact rotOperand _ _ _
  | rlcE => exact rotOperand _ _ _
  | rlcH => exact rotOperand _ _ _
  | rlcL => exact rotOperand _ _ _
  | rlcIndHl => exact rotOperand _ _ _
  | rlcA => exact rotOperand _ _ _
  | rrcB => exact rotOperand _ _ _
  | rrcC => exact rotOperand _ _ _
  | rrcD => exact rotOperand _ _ _
  | rrcE => exact rotOperand _ _ _
  | rrcH => exact rotOperand _ _ _
  | rrcL => exact rotOperand _ _ _
  | rrcIndHl => exact rotOperand _ _ _
  | rrcA => exact rotOperand _ _ _
  | rlB => exact rotOperand _ _ _
  | rlC => exact rotOperand _ _ _
  | rlD => exact rotOperand _ _ _
  | rlE => exact rotOperand _ _ _
  | rlH => exact rotOperand _ _ _
  | rlL => exact rotOperand _ _ _
  | rlIndHl => exact rotOperand _ _ _
  | rlA => exact rotOperand _ _ _
  | rrB => exact rotOperand _ _ _
  | rrC => exact rotOperand _ _ _
  | rrD => exact rotOperand _ _ _
  | rrE => exact rotOperand _ _ _
  | rrH => exact rotOperand _ _ _
  | rrL => exact rotOperand _ _ _
  | rrIndHl => exact rotOperand _ _ _
  | rrA => exact rotOperand _ _ _
  | slaB => exact rotOperand _ _ _
  | slaC => exact rotOperand _ _ _
  | slaD => exact rotOperand _ _ _
  | slaE => exact rotOperand _ _ _
  | slaH => exact rotOperand _ _ _
  | slaL => exact rotOperand _ _ _
  | slaIndHl => exact rotOperand _ _ _
  | slaA => exact rotOperand _ _ _
  | sraB => exact rotOperand _ _ _
  | sraC => exact rotOperand _ _ _
  | sraD => exact rotOperand _ _ _
  | sraE => exact rotOperand _ _ _
  | sraH => exact rotOperand _ _ _
  | sraL => exact rotOperand _ _ _
  | sraIndHl => exact rotOperand _ _ _
  | sraA => exact rotOperand _ _ _
  | swapB => exact rotOperand _ _ _
  | swapC => exact rotOperand _ _ _
  | swapD => exact rotOperand _ _ _
  | swapE => exact rotOperand _ _ _
  | swapH => exact rotOperand _ _ _
  | swapL => exact rotOperand _ _ _
  | swapIndHl => exact rotOperand _ _ _
  | swapA => exact rotOperand _ _ _
  | srlB => exact rotOperand _ _ _
  | srlC => exact rotOperand _ _ _
  | srlD => exact rotOperand _ _ _
  | srlE => exact rotOperand _ _ _
  | srlH => exact rotOperand _ _ _
  | srlL => exact rotOperand _ _ _
  | srlIndHl => exact rotOperand _ _ _
  | srlA => exact rotOperand _ _ _
  | bit0B => exact bitOperand _ _ _
  | bit0C => exact bitOperand _ _ _
  | bit0D => exact bitOperand _ _ _
  | bit0E => exact bitOperand _ _ _
  | bit0H => exact bitOperand _ _ _
  | bit0L => exact bitOperand _ _ _
  | bit0IndHl => exact bitOperand _ _ _
  | bit0A => exact bitOperand _ _ _
  | bit1B => exact bitOperand _ _ _
  | bit1C => exact bitOperand _ _ _
  | bit1D => exact bitOperand _ _ _
  | bit1E => exact bitOperand _ _ _
  | bit1H => exact bitOperand _ _ _
  | bit1L => exact bitOperand _ _ _
  | bit1IndHl => exact bitOperand _ _ _
  | bit1A => exact bitOperand _ _ _
  | bit2B => exact bitOperand _ _ _
  | bit2C => exact bitOperand _ _ _
  | bit2D => exact bitOperand _ _ _
  | bit2E => exact bitOperand _ _ _
  | bit2H => exact bitOperand _ _ _
  | bit2L => exact bitOperand _ _ _
  | bit2IndHl => exact bitOperand _ _ _
  | bit2A => exact bitOperand _ _ _
  | bit3B => exact bitOperand _ _ _
  | bit3C => exact bitOperand _ _ _
  | bit3D => exact bitOperand _ _ _
  | bit3E => exact bitOperand _ _ _
  | bit3H => exact bitOperand _ _ _
  | bit3L => exact bitOperand _ _ _
  | bit3IndHl => exact bitOperand _ _ _
  | bit3A => exact bitOperand _ _ _
  | bit4B => exact bitOperand _ _ _
  | bit4C => exact bitOperand _ _ _
  | bit4D => exact bitOperand _ _ _
  | bit4E => exact bitOperand _ _ _
  | bit4H => exact bitOperand _ _ _
  | bit4L => exact bitOperand _ _ _
  | bit4IndHl => exact bitOperand _ _ _
  | bit4A => exact bitOperand _ _ _
  | bit5B => exact bitOperand _ _ _
  | bit5C => exact bitOperand _ _ _
  | bit5D => exact bitOperand _ _ _
  | bit5E => exact bitOperand _ _ _
  | bit5H => exact bitOperand _ _ _
  | bit5L => exact bitOperand _ _ _
  | bit5IndHl => exact bitOperand _ _ _
  | bit5A => exact bitOperand _ _ _
  | bit6B => exact bitOperand _ _ _
  | bit6C => exact bitOperand _ _ _
  | bit6D => exact bitOperand _ _ _
  | bit6E => exact bitOperand _ _ _
  | bit6H => exact bitOperand _ _ _
  | bit6L => exact bitOperand _ _ _
  | bit6IndHl => exact bitOperand _ _ _
  | bit6A => exact bitOperand _ _ _
  | bit7B => exact bitOperand _ _ _
  | bit7C => exact bitOperand _ _ _
  | bit7D => exact bitOperand _ _ _
  | bit7E => exact bitOperand _ _ _
  | bit7H => exact bitOperand _ _ _
  | bit7L => exact bitOperand _ _ _
  | bit7IndHl => exact bitOperand _ _ _
  | bit7A => exact bitOperand _ _ _
  | res0B => exact resOperand _ _ _
  | res0C => exact resOperand _ _ _
  | res0D => exact resOperand _ _ _
  | res0E => exact resOperand _ _ _
  | res0H => exact resOperand _ _ _
  | res0L => exact resOperand _ _ _
  | res0IndHl => exact resOperand _ _ _
  | res0A => exact resOperand _ _ _
  | res1B => exact resOperand _ _ _
  | res1C => exact resOperand _ _ _
  | res1D => exact resOperand _ _ _
  | res1E => exact resOperand _ _ _
  | res1H => exact resOperand _ _ _
  | res1L => exact resOperand _ _ _
  | res1IndHl => exact resOperand _ _ _
  | res1A => exact resOperand _ _ _
  | res2B => exact resOperand _ _ _
  | res2C => exact resOperand _ _ _
  | res2D => exact resOperand _ _ _
  | res2E => exact resOperand _ _ _
  | res2H => exact resOperand _ _ _
  | res2L => exact resOperand _ _ _
  | res2IndHl => exact resOperand _ _ _
  | res2A => exact resOperand _ _ _
  | res3B => exact resOperand _ _ _
  | res3C => exact resOperand _ _ _
  | res3D => exact resOperand _ _ _
  | res3E => exact resOperand _ _ _
  | res3H => exact resOperand _ _ _
  | res3L => exact resOperand _ _ _
  | res3IndHl => exact resOperand _ _ _
  | res3A => exact resOperand _ _ _
  | res4B => exact resOperand _ _ _
  | res4C => exact resOperand _ _ _
  | res4D => exact resOperand _ _ _
  | res4E => exact resOperand _ _ _
  | res4H => exact resOperand _ _ _
  | res4L => exact resOperand _ _ _
  | res4IndHl => exact resOperand _ _ _
  | res4A => exact resOperand _ _ _
  | res5B => exact resOperand _ _ _
  | res5C => exact resOperand _ _ _
  | res5D => exact resOperand _ _ _
  | res5E => exact resOperand _ _ _
  | res5H => exact resOperand _ _ _
  | res5L => exact resOperand _ _ _
  | res5IndHl => exact resOperand _ _ _
  | res5A => exact resOperand _ _ _
  | res6B => exact resOperand _ _ _
  | res6C => exact resOperand _ _ _
  | res6D => exact resOperand _ _ _
  | res6E => exact resOperand _ _ _
  | res6H => exact resOperand _ _ _
  | res6L => exact resOperand _ _ _
  | res6IndHl => exact resOperand _ _ _
  | res6A => exact resOperand _ _ _
  | res7B => exact resOperand _ _ _
  | res7C => exact resOperand _ _ _
  | res7D => exact resOperand _ _ _
  | res7E => exact resOperand _ _ _
  | res7H => exact resOperand _ _ _
  | res7L => exact resOperand _ _ _
  | res7IndHl => exact resOperand _ _ _
  | res7A => exact resOperand _ _ _
  | set0B => exact setOperand _ _ _
  | set0C => exact setOperand _ _ _
  | set0D => exact setOperand _ _ _
  | set0E => exact setOperand _ _ _
  | set0H => exact setOperand _ _ _
  | set0L => exact setOperand _ _ _
  | set0IndHl => exact setOperand _ _ _
  | set0A => exact setOperand _ _ _
  | set1B => exact setOperand _ _ _
  | set1C => exact setOperand _ _ _
  | set1D => exact setOperand _ _ _
  | set1E => exact setOperand _ _ _
  | set1H => exact setOperand _ _ _
  | set1L => exact setOperand _ _ _
  | set1IndHl => exact setOperand _ _ _
  | set1A => exact setOperand _ _ _
  | set2B => exact setOperand _ _ _
  | set2C => exact setOperand _ _ _
  | set2D => exact setOperand _ _ _
  | set2E => exact setOperand _ _ _
  | set2H => exact setOperand _ _ _
  | set2L => exact setOperand _ _ _
  | set2IndHl => exact setOperand _ _ _
  | set2A => exact setOperand _ _ _
  | set3B => exact setOperand _ _ _
  | set3C => exact setOperand _ _ _
  | set3D => exact setOperand _ _ _
  | set3E => exact setOperand _ _ _
  | set3H => exact setOperand _ _ _
  | set3L => exact setOperand _ _ _
  | set3IndHl => exact setOperand _ _ _
  | set3A => exact setOperand _ _ _
  | set4B => exact setOperand _ _ _
  | set4C => exact setOperand _ _ _
  | set4D => exact setOperand _ _ _
  | set4E => exact setOperand _ _ _
  | set4H => exact setOperand _ _ _
  | set4L => exact setOperand _ _ _
  | set4IndHl => exact setOperand _ _ _
  | set4A => exact setOperand _ _ _
  | set5B => exact setOperand _ _ _
  | set5C => exact setOperand _ _ _
  | set5D => exact setOperand _ _ _
  | set5E => exact setOperand _ _ _
  | set5H => exact setOperand _ _ _
  | set5L => exact setOperand _ _ _
  | set5IndHl => exact setOperand _ _ _
  | set5A => exact setOperand _ _ _
  | set6B => exact setOperand _ _ _
  | set6C => exact setOperand _ _ _
  | set6D => exact setOperand _ _ _
  | set6E => exact setOperand _ _ _
  | set6H => exact setOperand _ _ _
  | set6L => exact setOperand _ _ _
  | set6IndHl => exact setOperand _ _ _
  | set6A => exact setOperand _ _ _
  | set7B => exact setOperand _ _ _
  | set7C => exact setOperand _ _ _
  | set7D => exact setOperand _ _ _
  | set7E => exact setOperand _ _ _
  | set7H => exact setOperand _ _ _
  | set7L => exact setOperand _ _ _
  | set7IndHl => exact setOperand _ _ _
  | set7A => exact setOperand _ _ _
  | retNz => exact returnIf _ _
  | rst00 => exact callTo _ _ _
  | retZ => exact returnIf _ _
  | ret => exact returnCharged _ _
  | rst08 => exact callTo _ _ _
  | retNc => exact returnIf _ _
  | rst10 => exact callTo _ _ _
  | retC => exact returnIf _ _
  | reti => exact reti
  | rst18 => exact callTo _ _ _
  | rst20 => exact callTo _ _ _
  | jpHl => exact jumpTo _ _ _
  | rst28 => exact callTo _ _ _
  | rst30 => exact callTo _ _ _
  | rst38 => exact callTo _ _ _
  | nop => exact nop
  | halt => exact halt
  | di => exact di
  | ei => exact ei

end Sys2Proof.Machine
end

