-- ==== Sys2Proof/Laws/Memory.lean ====
section
/-! SUPPORT. Read after write, and the canonical form, of a memory as a list of cells, whatever an unlisted address holds. -/
namespace Sys2Proof.Machine

theorem Memory.get_filter_other (m : Memory) (u : Nat → Byte) {a b : Nat} (h : b ≠ a) :
    Memory.get (m.filter (fun c => c.1 != a)) u b = m.get u b := by
  induction m with
  | nil => rfl
  | cons c rest ih =>
    by_cases hc : c.1 = a
    · simp [hc, ih, Memory.get, h.symm]
    · simp [hc, ih, Memory.get]

theorem Memory.get_insertCell_same (m : Memory) (u : Nat → Byte) (a : Nat) (v : Byte) (h : ∀ c ∈ m, c.1 ≠ a) :
    (m.insertCell a v).get u a = v := by
  induction m with
  | nil => simp [Memory.insertCell, Memory.get]
  | cons c rest ih =>
    have hc : c.1 ≠ a := h c (by simp)
    have hr := ih (fun d hd => h d (by simp [hd]))
    by_cases hlt : a < c.1
    · simp [Memory.insertCell, hlt, Memory.get]
    · simp [Memory.insertCell, hlt, Memory.get, hc, hr]

theorem Memory.get_insertCell_other (m : Memory) (u : Nat → Byte) {a b : Nat} (v : Byte) (h : b ≠ a) :
    (m.insertCell a v).get u b = m.get u b := by
  induction m with
  | nil => simp [Memory.insertCell, Memory.get, h.symm]
  | cons c rest ih =>
    by_cases hlt : a < c.1
    · simp [Memory.insertCell, hlt, Memory.get, h.symm]
    · simp [Memory.insertCell, hlt, Memory.get, ih]

/-- A read after a write to the same address gives the byte written. -/
@[simp] theorem Memory.get_set_same (m : Memory) (u : Nat → Byte) (a : Nat) (v : Byte) : (m.set a v).get u a = v :=
  Memory.get_insertCell_same _ u a v (by simp)

/-- A write leaves every other address alone. -/
theorem Memory.get_set_other (m : Memory) (u : Nat → Byte) {a b : Nat} (v : Byte) (h : b ≠ a) :
    (m.set a v).get u b = m.get u b := by
  rw [Memory.set, Memory.get_insertCell_other _ u v h, Memory.get_filter_other m u h]

theorem Memory.mem_insertCell {m : Memory} {a : Nat} {v : Byte} {c : Host.Cell} (h : c ∈ m.insertCell a v) :
    c = (a, v) ∨ c ∈ m := by
  induction m with
  | nil => simpa [Memory.insertCell] using h
  | cons d rest ih =>
    by_cases hlt : a < d.1
    · simpa [Memory.insertCell, hlt] using h
    · simp only [Memory.insertCell, hlt, if_false, List.mem_cons] at h ⊢
      rcases h with h | h
      · exact .inr (.inl h)
      · rcases ih h with h | h
        · exact .inl h
        · exact .inr (.inr h)

/-- Every cell after a write is the new one or an old one. -/
theorem Memory.mem_set {m : Memory} {a : Nat} {v : Byte} {c : Host.Cell} (h : c ∈ m.set a v) : c = (a, v) ∨ c ∈ m :=
  (Memory.mem_insertCell h).imp_right (fun h => (List.mem_filter.mp h).1)

theorem Memory.pairwise_insertCell {m : Memory} {a : Nat} {v : Byte} (hm : m.Pairwise (fun c d => c.1 < d.1))
    (h : ∀ c ∈ m, c.1 ≠ a) : (m.insertCell a v).Pairwise (fun c d => c.1 < d.1) := by
  induction m with
  | nil => simp [Memory.insertCell]
  | cons d rest ih =>
    obtain ⟨hd, hr⟩ := List.pairwise_cons.mp hm
    by_cases hlt : a < d.1
    · simp only [Memory.insertCell, hlt, if_true, List.pairwise_cons]
      refine ⟨fun c hc => ?_, hd, hr⟩
      rcases List.mem_cons.mp hc with rfl | hc
      · exact hlt
      · exact Nat.lt_trans hlt (hd c hc)
    · simp only [Memory.insertCell, hlt, if_false, List.pairwise_cons]
      refine ⟨fun c hc => ?_, ih hr (fun c hc => h c (by simp [hc]))⟩
      have hda : d.1 ≠ a := h d (by simp)
      rcases Memory.mem_insertCell hc with rfl | hc
      · show d.1 < a
        omega
      · exact hd c hc

/-- A write of an address inside the address space keeps the canonical form. -/
theorem Memory.wf_set {m : Memory} (hm : m.wf) {a : Nat} (ha : a < 0x10000) (v : Byte) : (m.set a v).wf := by
  refine ⟨Memory.pairwise_insertCell (hm.1.filter _) (by simp), fun c hc => ?_⟩
  rcases Memory.mem_set hc with rfl | hc
  · exact ha
  · exact hm.2 c hc

/-! ### The stored bytes by memory -/

/-- A store into `mem` is read back. -/
@[simp] theorem State.memByte_set_same (s : State) (a : Nat) (v : Byte) :
    ({ s with mem := s.mem.set a v } : State).memByte a = v := Memory.get_set_same s.mem Config.initMem a v

/-- A store into `mem` leaves the byte at every other address. -/
theorem State.memByte_set_other (s : State) {a b : Nat} (v : Byte) (h : b ≠ a) :
    ({ s with mem := s.mem.set a v } : State).memByte b = s.memByte b := Memory.get_set_other s.mem Config.initMem v h

end Sys2Proof.Machine
end

