-- ==== Sys2Proof/Laws/State.lean ====
section
/-! SUPPORT. What each register update leaves in each field of the state, and what each register read gives after each register
write. -/
namespace Sys2Proof.Machine

@[simp] theorem State.charge_af (s : State) (n : Nat) : (s.charge n).af = s.af := rfl
@[simp] theorem State.charge_bc (s : State) (n : Nat) : (s.charge n).bc = s.bc := rfl
@[simp] theorem State.charge_de (s : State) (n : Nat) : (s.charge n).de = s.de := rfl
@[simp] theorem State.charge_hl (s : State) (n : Nat) : (s.charge n).hl = s.hl := rfl
@[simp] theorem State.charge_sp (s : State) (n : Nat) : (s.charge n).sp = s.sp := rfl
@[simp] theorem State.charge_pc (s : State) (n : Nat) : (s.charge n).pc = s.pc := rfl
@[simp] theorem State.charge_ime (s : State) (n : Nat) : (s.charge n).ime = s.ime := rfl
@[simp] theorem State.charge_mode (s : State) (n : Nat) : (s.charge n).mode = s.mode := rfl
@[simp] theorem State.charge_saved (s : State) (n : Nat) : (s.charge n).saved = s.saved := rfl
@[simp] theorem State.charge_bootEnabled (s : State) (n : Nat) : (s.charge n).bootEnabled = s.bootEnabled := rfl
@[simp] theorem State.charge_divAcc (s : State) (n : Nat) : (s.charge n).divAcc = s.divAcc := rfl
@[simp] theorem State.charge_timaAcc (s : State) (n : Nat) : (s.charge n).timaAcc = s.timaAcc := rfl
@[simp] theorem State.charge_io (s : State) (n : Nat) : (s.charge n).io = s.io := rfl
@[simp] theorem State.charge_mem (s : State) (n : Nat) : (s.charge n).mem = s.mem := rfl
@[simp] theorem State.charge_params (s : State) (n : Nat) : (s.charge n).params = s.params := rfl
@[simp] theorem State.charge_buttons (s : State) (n : Nat) : (s.charge n).buttons = s.buttons := rfl

@[simp] theorem State.charge_cycles (s : State) (n : Nat) : (s.charge n).cycles = s.cycles + n := rfl

@[simp] theorem State.setF_bc (s : State) (v : Byte) : (s.setF v).bc = s.bc := rfl
@[simp] theorem State.setF_de (s : State) (v : Byte) : (s.setF v).de = s.de := rfl
@[simp] theorem State.setF_hl (s : State) (v : Byte) : (s.setF v).hl = s.hl := rfl
@[simp] theorem State.setF_sp (s : State) (v : Byte) : (s.setF v).sp = s.sp := rfl
@[simp] theorem State.setF_pc (s : State) (v : Byte) : (s.setF v).pc = s.pc := rfl
@[simp] theorem State.setF_ime (s : State) (v : Byte) : (s.setF v).ime = s.ime := rfl
@[simp] theorem State.setF_mode (s : State) (v : Byte) : (s.setF v).mode = s.mode := rfl
@[simp] theorem State.setF_saved (s : State) (v : Byte) : (s.setF v).saved = s.saved := rfl
@[simp] theorem State.setF_cycles (s : State) (v : Byte) : (s.setF v).cycles = s.cycles := rfl
@[simp] theorem State.setF_bootEnabled (s : State) (v : Byte) : (s.setF v).bootEnabled = s.bootEnabled := rfl
@[simp] theorem State.setF_divAcc (s : State) (v : Byte) : (s.setF v).divAcc = s.divAcc := rfl
@[simp] theorem State.setF_timaAcc (s : State) (v : Byte) : (s.setF v).timaAcc = s.timaAcc := rfl
@[simp] theorem State.setF_io (s : State) (v : Byte) : (s.setF v).io = s.io := rfl
@[simp] theorem State.setF_mem (s : State) (v : Byte) : (s.setF v).mem = s.mem := rfl
@[simp] theorem State.setF_params (s : State) (v : Byte) : (s.setF v).params = s.params := rfl
@[simp] theorem State.setF_buttons (s : State) (v : Byte) : (s.setF v).buttons = s.buttons := rfl

@[simp] theorem State.setFlags_bc (s : State) (f : Flags) : (s.setFlags f).bc = s.bc := rfl
@[simp] theorem State.setFlags_de (s : State) (f : Flags) : (s.setFlags f).de = s.de := rfl
@[simp] theorem State.setFlags_hl (s : State) (f : Flags) : (s.setFlags f).hl = s.hl := rfl
@[simp] theorem State.setFlags_sp (s : State) (f : Flags) : (s.setFlags f).sp = s.sp := rfl
@[simp] theorem State.setFlags_pc (s : State) (f : Flags) : (s.setFlags f).pc = s.pc := rfl
@[simp] theorem State.setFlags_ime (s : State) (f : Flags) : (s.setFlags f).ime = s.ime := rfl
@[simp] theorem State.setFlags_mode (s : State) (f : Flags) : (s.setFlags f).mode = s.mode := rfl
@[simp] theorem State.setFlags_saved (s : State) (f : Flags) : (s.setFlags f).saved = s.saved := rfl
@[simp] theorem State.setFlags_cycles (s : State) (f : Flags) : (s.setFlags f).cycles = s.cycles := rfl
@[simp] theorem State.setFlags_bootEnabled (s : State) (f : Flags) : (s.setFlags f).bootEnabled = s.bootEnabled := rfl
@[simp] theorem State.setFlags_divAcc (s : State) (f : Flags) : (s.setFlags f).divAcc = s.divAcc := rfl
@[simp] theorem State.setFlags_timaAcc (s : State) (f : Flags) : (s.setFlags f).timaAcc = s.timaAcc := rfl
@[simp] theorem State.setFlags_io (s : State) (f : Flags) : (s.setFlags f).io = s.io := rfl
@[simp] theorem State.setFlags_mem (s : State) (f : Flags) : (s.setFlags f).mem = s.mem := rfl
@[simp] theorem State.setFlags_params (s : State) (f : Flags) : (s.setFlags f).params = s.params := rfl
@[simp] theorem State.setFlags_buttons (s : State) (f : Flags) : (s.setFlags f).buttons = s.buttons := rfl

@[simp] theorem State.setR8_sp (s : State) (r : Reg8) (v : Byte) : (s.setR8 r v).sp = s.sp := by cases r <;> rfl
@[simp] theorem State.setR8_pc (s : State) (r : Reg8) (v : Byte) : (s.setR8 r v).pc = s.pc := by cases r <;> rfl
@[simp] theorem State.setR8_ime (s : State) (r : Reg8) (v : Byte) : (s.setR8 r v).ime = s.ime := by cases r <;> rfl
@[simp] theorem State.setR8_mode (s : State) (r : Reg8) (v : Byte) : (s.setR8 r v).mode = s.mode := by cases r <;> rfl
@[simp] theorem State.setR8_saved (s : State) (r : Reg8) (v : Byte) : (s.setR8 r v).saved = s.saved := by cases r <;> rfl
@[simp] theorem State.setR8_cycles (s : State) (r : Reg8) (v : Byte) : (s.setR8 r v).cycles = s.cycles := by cases r <;> rfl
@[simp] theorem State.setR8_bootEnabled (s : State) (r : Reg8) (v : Byte) : (s.setR8 r v).bootEnabled = s.bootEnabled := by cases r <;> rfl
@[simp] theorem State.setR8_divAcc (s : State) (r : Reg8) (v : Byte) : (s.setR8 r v).divAcc = s.divAcc := by cases r <;> rfl
@[simp] theorem State.setR8_timaAcc (s : State) (r : Reg8) (v : Byte) : (s.setR8 r v).timaAcc = s.timaAcc := by cases r <;> rfl
@[simp] theorem State.setR8_io (s : State) (r : Reg8) (v : Byte) : (s.setR8 r v).io = s.io := by cases r <;> rfl
@[simp] theorem State.setR8_mem (s : State) (r : Reg8) (v : Byte) : (s.setR8 r v).mem = s.mem := by cases r <;> rfl
@[simp] theorem State.setR8_params (s : State) (r : Reg8) (v : Byte) : (s.setR8 r v).params = s.params := by cases r <;> rfl
@[simp] theorem State.setR8_buttons (s : State) (r : Reg8) (v : Byte) : (s.setR8 r v).buttons = s.buttons := by cases r <;> rfl

@[simp] theorem State.setR16_af (s : State) (p : Reg16) (w : Word) : (s.setR16 p w).af = s.af := by cases p <;> rfl
@[simp] theorem State.setR16_pc (s : State) (p : Reg16) (w : Word) : (s.setR16 p w).pc = s.pc := by cases p <;> rfl
@[simp] theorem State.setR16_ime (s : State) (p : Reg16) (w : Word) : (s.setR16 p w).ime = s.ime := by cases p <;> rfl
@[simp] theorem State.setR16_mode (s : State) (p : Reg16) (w : Word) : (s.setR16 p w).mode = s.mode := by cases p <;> rfl
@[simp] theorem State.setR16_saved (s : State) (p : Reg16) (w : Word) : (s.setR16 p w).saved = s.saved := by cases p <;> rfl
@[simp] theorem State.setR16_cycles (s : State) (p : Reg16) (w : Word) : (s.setR16 p w).cycles = s.cycles := by cases p <;> rfl
@[simp] theorem State.setR16_bootEnabled (s : State) (p : Reg16) (w : Word) : (s.setR16 p w).bootEnabled = s.bootEnabled := by cases p <;> rfl
@[simp] theorem State.setR16_divAcc (s : State) (p : Reg16) (w : Word) : (s.setR16 p w).divAcc = s.divAcc := by cases p <;> rfl
@[simp] theorem State.setR16_timaAcc (s : State) (p : Reg16) (w : Word) : (s.setR16 p w).timaAcc = s.timaAcc := by cases p <;> rfl
@[simp] theorem State.setR16_io (s : State) (p : Reg16) (w : Word) : (s.setR16 p w).io = s.io := by cases p <;> rfl
@[simp] theorem State.setR16_mem (s : State) (p : Reg16) (w : Word) : (s.setR16 p w).mem = s.mem := by cases p <;> rfl
@[simp] theorem State.setR16_params (s : State) (p : Reg16) (w : Word) : (s.setR16 p w).params = s.params := by cases p <;> rfl
@[simp] theorem State.setR16_buttons (s : State) (p : Reg16) (w : Word) : (s.setR16 p w).buttons = s.buttons := by cases p <;> rfl

@[simp] theorem State.setStk16_sp (s : State) (q : Stk16) (w : Word) : (s.setStk16 q w).sp = s.sp := by cases q <;> rfl
@[simp] theorem State.setStk16_pc (s : State) (q : Stk16) (w : Word) : (s.setStk16 q w).pc = s.pc := by cases q <;> rfl
@[simp] theorem State.setStk16_ime (s : State) (q : Stk16) (w : Word) : (s.setStk16 q w).ime = s.ime := by cases q <;> rfl
@[simp] theorem State.setStk16_mode (s : State) (q : Stk16) (w : Word) : (s.setStk16 q w).mode = s.mode := by cases q <;> rfl
@[simp] theorem State.setStk16_saved (s : State) (q : Stk16) (w : Word) : (s.setStk16 q w).saved = s.saved := by cases q <;> rfl
@[simp] theorem State.setStk16_cycles (s : State) (q : Stk16) (w : Word) : (s.setStk16 q w).cycles = s.cycles := by cases q <;> rfl
@[simp] theorem State.setStk16_bootEnabled (s : State) (q : Stk16) (w : Word) : (s.setStk16 q w).bootEnabled = s.bootEnabled := by cases q <;> rfl
@[simp] theorem State.setStk16_divAcc (s : State) (q : Stk16) (w : Word) : (s.setStk16 q w).divAcc = s.divAcc := by cases q <;> rfl
@[simp] theorem State.setStk16_timaAcc (s : State) (q : Stk16) (w : Word) : (s.setStk16 q w).timaAcc = s.timaAcc := by cases q <;> rfl
@[simp] theorem State.setStk16_io (s : State) (q : Stk16) (w : Word) : (s.setStk16 q w).io = s.io := by cases q <;> rfl
@[simp] theorem State.setStk16_mem (s : State) (q : Stk16) (w : Word) : (s.setStk16 q w).mem = s.mem := by cases q <;> rfl
@[simp] theorem State.setStk16_params (s : State) (q : Stk16) (w : Word) : (s.setStk16 q w).params = s.params := by cases q <;> rfl
@[simp] theorem State.setStk16_buttons (s : State) (q : Stk16) (w : Word) : (s.setStk16 q w).buttons = s.buttons := by cases q <;> rfl

@[simp] theorem State.putAcc_bc (s : State) (r : AluResult) : (s.putAcc r).bc = s.bc := rfl
@[simp] theorem State.putAcc_de (s : State) (r : AluResult) : (s.putAcc r).de = s.de := rfl
@[simp] theorem State.putAcc_hl (s : State) (r : AluResult) : (s.putAcc r).hl = s.hl := rfl
@[simp] theorem State.putAcc_sp (s : State) (r : AluResult) : (s.putAcc r).sp = s.sp := rfl
@[simp] theorem State.putAcc_pc (s : State) (r : AluResult) : (s.putAcc r).pc = s.pc := rfl
@[simp] theorem State.putAcc_ime (s : State) (r : AluResult) : (s.putAcc r).ime = s.ime := rfl
@[simp] theorem State.putAcc_mode (s : State) (r : AluResult) : (s.putAcc r).mode = s.mode := rfl
@[simp] theorem State.putAcc_saved (s : State) (r : AluResult) : (s.putAcc r).saved = s.saved := rfl
@[simp] theorem State.putAcc_cycles (s : State) (r : AluResult) : (s.putAcc r).cycles = s.cycles := rfl
@[simp] theorem State.putAcc_bootEnabled (s : State) (r : AluResult) : (s.putAcc r).bootEnabled = s.bootEnabled := rfl
@[simp] theorem State.putAcc_divAcc (s : State) (r : AluResult) : (s.putAcc r).divAcc = s.divAcc := rfl
@[simp] theorem State.putAcc_timaAcc (s : State) (r : AluResult) : (s.putAcc r).timaAcc = s.timaAcc := rfl
@[simp] theorem State.putAcc_io (s : State) (r : AluResult) : (s.putAcc r).io = s.io := rfl
@[simp] theorem State.putAcc_mem (s : State) (r : AluResult) : (s.putAcc r).mem = s.mem := rfl
@[simp] theorem State.putAcc_params (s : State) (r : AluResult) : (s.putAcc r).params = s.params := rfl
@[simp] theorem State.putAcc_buttons (s : State) (r : AluResult) : (s.putAcc r).buttons = s.buttons := rfl

/-! ### Byte registers -/

@[simp] theorem State.setR8_getR8_same (s : State) (r : Reg8) (v : Byte) : (s.setR8 r v).getR8 r = v := by
  cases r <;> simp [State.setR8, State.getR8]

theorem State.setR8_getR8_other (s : State) {r q : Reg8} (h : q ≠ r) (v : Byte) : (s.setR8 r v).getR8 q = s.getR8 q := by
  cases r <;> cases q <;> simp_all [State.setR8, State.getR8]

@[simp] theorem State.setR8_getF (s : State) (r : Reg8) (v : Byte) : (s.setR8 r v).getF = s.getF := by
  cases r <;> simp [State.setR8, State.getF]

@[simp] theorem State.setR8_flags (s : State) (r : Reg8) (v : Byte) : (s.setR8 r v).flags = s.flags := by
  simp [State.flags]

@[simp] theorem State.getR8_a (s : State) : s.getR8 .a = s.getA := rfl

@[simp] theorem State.setF_getR8 (s : State) (r : Reg8) (v : Byte) : (s.setF v).getR8 r = s.getR8 r := by
  cases r <;> simp [State.setF, State.getR8]

@[simp] theorem State.setF_getA (s : State) (v : Byte) : (s.setF v).getA = s.getA := by
  simp [State.setF, State.getA]

@[simp] theorem State.setF_getF (s : State) (v : Byte) : (s.setF v).getF = v &&& 0xF0 := by
  simp [State.setF, State.getF, BitVec.and_assoc]

@[simp] theorem State.setFlags_getR8 (s : State) (r : Reg8) (f : Flags) : (s.setFlags f).getR8 r = s.getR8 r :=
  State.setF_getR8 s r f.pack

@[simp] theorem State.setFlags_getA (s : State) (f : Flags) : (s.setFlags f).getA = s.getA := State.setF_getA s f.pack

/-! ### Flags -/

theorem Flags.pack_and (f : Flags) : f.pack &&& 0xF0 = f.pack := by
  obtain ⟨z, n, h, c⟩ := f
  cases z <;> cases n <;> cases h <;> cases c <;> decide

@[simp] theorem Flags.ofByte_pack (f : Flags) : Flags.ofByte f.pack = f := by
  obtain ⟨z, n, h, c⟩ := f
  cases z <;> cases n <;> cases h <;> cases c <;> decide

@[simp] theorem State.setFlags_getF (s : State) (f : Flags) : (s.setFlags f).getF = f.pack := by
  rw [State.setFlags, State.setF_getF, Flags.pack_and]

@[simp] theorem State.setFlags_flags (s : State) (f : Flags) : (s.setFlags f).flags = f := by
  simp [State.flags]

@[simp] theorem State.charge_getR8 (s : State) (r : Reg8) (n : Nat) : (s.charge n).getR8 r = s.getR8 r := by
  cases r <;> rfl

@[simp] theorem State.charge_getF (s : State) (n : Nat) : (s.charge n).getF = s.getF := rfl

@[simp] theorem State.charge_flags (s : State) (n : Nat) : (s.charge n).flags = s.flags := rfl

@[simp] theorem State.charge_getA (s : State) (n : Nat) : (s.charge n).getA = s.getA := rfl

@[simp] theorem State.putAcc_getA (s : State) (r : AluResult) : (s.putAcc r).getA = r.value := by
  simp [State.putAcc, ← State.getR8_a]

@[simp] theorem State.putAcc_flags (s : State) (r : AluResult) : (s.putAcc r).flags = r.flags := by
  simp [State.putAcc]

/-! ### Pairs -/

@[simp] theorem State.setR16_getR16_same (s : State) (p : Reg16) (w : Word) : (s.setR16 p w).getR16 p = w := by
  cases p <;> rfl

theorem State.setR16_getR16_other (s : State) {p q : Reg16} (h : q ≠ p) (w : Word) : (s.setR16 p w).getR16 q = s.getR16 q := by
  cases p <;> cases q <;> simp_all [State.setR16, State.getR16]

@[simp] theorem State.setR16_getA (s : State) (p : Reg16) (w : Word) : (s.setR16 p w).getA = s.getA := by
  cases p <;> rfl

@[simp] theorem State.setR16_getF (s : State) (p : Reg16) (w : Word) : (s.setR16 p w).getF = s.getF := by
  cases p <;> rfl

@[simp] theorem State.setR16_flags (s : State) (p : Reg16) (w : Word) : (s.setR16 p w).flags = s.flags := by
  cases p <;> rfl

theorem joinBytes_and (lo hi : Byte) : joinBytes (lo &&& 0xF0) hi = joinBytes lo hi &&& 0xFFF0 := by
  have h : (0xFFF0 : Word) = (0xFF : Byte) ++ (0xF0 : Byte) := by decide
  rw [joinBytes, joinBytes, h, BitVec.and_append]
  congr 1
  exact (BitVec.and_allOnes (x := hi)).symm

/-- `AF` read after `AF <- w` (R23). -/
theorem State.setStk16_getAF (s : State) (w : Word) : (s.setStk16 .af w).getAF = w &&& 0xFFF0 := by
  have h : (w &&& 0xFFF0) &&& 0xFFF0 = w &&& 0xFFF0 := by rw [BitVec.and_assoc]; rfl
  rw [State.getAF, State.getF, State.getA, joinBytes_and, joinBytes_halves]
  exact h

@[simp] theorem State.setStk16_getStk16_same (s : State) (q : Stk16) (w : Word) :
    (s.setStk16 q w).getStk16 q = if q = .af then w &&& 0xFFF0 else w := by
  cases q
  · rfl
  · rfl
  · rfl
  · exact State.setStk16_getAF s w

theorem State.setStk16_getStk16_other (s : State) {p q : Stk16} (h : q ≠ p) (w : Word) :
    (s.setStk16 p w).getStk16 q = s.getStk16 q := by
  cases p <;> cases q <;> first | rfl | exact absurd rfl h

end Sys2Proof.Machine
end

