-- ==== Sys2Proof/Laws/Controller.lean ====
section
/-! SUPPORT. What the memory controller can do: the decoder's cases, what a byte write keeps, what it changes. -/
namespace Sys2Proof.Machine

/-! ### The register bank -/

theorem hwRegAt_addr (r : HwReg) : hwRegAt r.addr = some r := by cases r <;> decide

theorem hwRegAt_some {a : Word} {r : HwReg} (h : hwRegAt a = some r) : a = r.addr := by
  have := List.find?_some h
  simpa using (beq_iff_eq.mp this).symm

theorem HwReg.addr_ge (r : HwReg) : 0xFF00 ≤ r.addr.toNat := by cases r <;> decide

theorem HwReg.addr_inj {r q : HwReg} (h : r.addr = q.addr) : r = q :=
  Option.some.inj ((hwRegAt_addr r).symm.trans (h ▸ hwRegAt_addr q))

theorem HwReg.addr_not_hram (r : HwReg) : r.addr.toNat < 0xFF80 ∨ r.addr.toNat = 0xFFFF := by cases r <;> decide

@[simp] theorem HwRegs.get_set_same (io : HwRegs) (r : HwReg) (v : Byte) : (io.set r v).get r = v := by cases r <;> rfl

theorem HwRegs.get_set_other (io : HwRegs) {r q : HwReg} (h : q ≠ r) (v : Byte) : (io.set r v).get q = io.get q := by
  cases r <;> cases q <;> first | rfl | exact absurd rfl h

/-! ### The decoder -/

theorem decodeAddr_low {b : Bool} {a : Word} (h : a.toNat ≤ 0x00FF) : decodeAddr b a = if b then .bootOverlay else .rom := by
  cases b <;> (simp [decodeAddr, h]; try omega)

theorem decodeAddr_rom {b : Bool} {a : Word} (h1 : 0x00FF < a.toNat) (h2 : a.toNat ≤ 0x7FFF) : decodeAddr b a = .rom := by
  have : ¬a.toNat ≤ 0x00FF := by omega
  simp [decodeAddr, this, h2]

theorem decodeAddr_ram {b : Bool} {a : Word} (h1 : 0x8000 ≤ a.toNat) (h2 : a.toNat ≤ 0xFDFF) : decodeAddr b a = .ram := by
  have h3 : ¬a.toNat ≤ 0x00FF := by omega
  have h4 : ¬a.toNat ≤ 0x7FFF := by omega
  simp [decodeAddr, h2, h3, h4]

theorem decodeAddr_oam {b : Bool} {a : Word} (h1 : 0xFE00 ≤ a.toNat) (h2 : a.toNat ≤ 0xFEFF) : decodeAddr b a = .oam := by
  have h3 : ¬a.toNat ≤ 0x00FF := by omega
  have h4 : ¬a.toNat ≤ 0x7FFF := by omega
  have h5 : ¬a.toNat ≤ 0xFDFF := by omega
  simp [decodeAddr, h2, h3, h4, h5]

theorem decodeAddr_high {b : Bool} {a : Word} (h : 0xFF00 ≤ a.toNat) :
    decodeAddr b a =
      match hwRegAt a with
      | some r => .register r
      | none => if 0xFF80 ≤ a.toNat ∧ a.toNat ≤ 0xFFFE then .hram else .unmapped := by
  have h3 : ¬a.toNat ≤ 0x00FF := by omega
  have h4 : ¬a.toNat ≤ 0x7FFF := by omega
  have h5 : ¬a.toNat ≤ 0xFDFF := by omega
  have h6 : ¬a.toNat ≤ 0xFEFF := by omega
  cases hr : hwRegAt a <;> simp only [decodeAddr, hr, h3, h4, h5, h6, and_false, if_false]

theorem decodeAddr_register (b : Bool) (r : HwReg) : decodeAddr b r.addr = .register r := by
  rw [decodeAddr_high r.addr_ge, hwRegAt_addr]

theorem decodeAddr_hram {b : Bool} {a : Word} (h1 : 0xFF80 ≤ a.toNat) (h2 : a.toNat ≤ 0xFFFE) : decodeAddr b a = .hram := by
  rw [decodeAddr_high (by omega)]
  cases hr : hwRegAt a with
  | none => simp [h1, h2]
  | some r =>
    have := hwRegAt_some hr
    have := r.addr_not_hram
    subst_vars
    omega

/-- The cases of the decoder: where an address lies when it decodes to a region. -/
theorem decodeAddr_cases (b : Bool) (a : Word) :
    (decodeAddr b a = .bootOverlay ∧ b = true ∧ a.toNat ≤ 0x00FF) ∨
    (decodeAddr b a = .rom ∧ a.toNat ≤ 0x7FFF ∧ (b = true → 0x00FF < a.toNat)) ∨
    (decodeAddr b a = .ram ∧ 0x8000 ≤ a.toNat ∧ a.toNat ≤ 0xFDFF) ∨
    (decodeAddr b a = .oam ∧ 0xFE00 ≤ a.toNat ∧ a.toNat ≤ 0xFEFF) ∨
    (∃ r, decodeAddr b a = .register r ∧ a = r.addr) ∨
    (decodeAddr b a = .hram ∧ 0xFF80 ≤ a.toNat ∧ a.toNat ≤ 0xFFFE) ∨
    (decodeAddr b a = .unmapped ∧ 0xFF00 ≤ a.toNat ∧ a.toNat ≤ 0xFF7F ∧ hwRegAt a = none) := by
  rcases Nat.lt_or_ge 0x00FF a.toNat with h0 | h0
  · rcases Nat.lt_or_ge 0x7FFF a.toNat with h1 | h1
    · rcases Nat.lt_or_ge 0xFDFF a.toNat with h2 | h2
      · rcases Nat.lt_or_ge 0xFEFF a.toNat with h3 | h3
        · cases hr : hwRegAt a with
          | some r =>
            have ha := hwRegAt_some hr
            subst ha
            exact .inr (.inr (.inr (.inr (.inl ⟨r, decodeAddr_register b r, rfl⟩))))
          | none =>
            have hd := decodeAddr_high (b := b) (a := a) (by omega)
            simp only [hr] at hd
            have hne : a.toNat ≠ 0xFFFF := by
              intro h
              have : a = HwReg.intEnable.addr := BitVec.eq_of_toNat_eq h
              rw [this, hwRegAt_addr] at hr
              cases hr
            have := a.isLt
            by_cases h4 : 0xFF80 ≤ a.toNat
            · have h5 : a.toNat ≤ 0xFFFE := by omega
              rw [if_pos ⟨h4, h5⟩] at hd
              exact .inr (.inr (.inr (.inr (.inr (.inl ⟨hd, h4, h5⟩)))))
            · rw [if_neg (by omega)] at hd
              exact .inr (.inr (.inr (.inr (.inr (.inr ⟨hd, by omega, by omega, rfl⟩)))))
        · exact .inr (.inr (.inr (.inl ⟨decodeAddr_oam (by omega) h3, by omega, h3⟩)))
      · exact .inr (.inr (.inl ⟨decodeAddr_ram (by omega) h2, by omega, h2⟩))
    · exact .inr (.inl ⟨decodeAddr_rom h0 h1, h1, fun _ => h0⟩)
  · cases b
    · exact .inr (.inl ⟨by simpa using decodeAddr_low (b := false) h0, by omega, by simp⟩)
    · exact .inl ⟨by simpa using decodeAddr_low (b := true) h0, rfl, h0⟩

/-! ### What a byte write keeps -/

@[simp] theorem State.writeRegister_af (s : State) (r : HwReg) (v : Byte) : (s.writeRegister r v).af = s.af := by
  cases r <;> rfl
@[simp] theorem State.writeRegister_bc (s : State) (r : HwReg) (v : Byte) : (s.writeRegister r v).bc = s.bc := by
  cases r <;> rfl
@[simp] theorem State.writeRegister_de (s : State) (r : HwReg) (v : Byte) : (s.writeRegister r v).de = s.de := by
  cases r <;> rfl
@[simp] theorem State.writeRegister_hl (s : State) (r : HwReg) (v : Byte) : (s.writeRegister r v).hl = s.hl := by
  cases r <;> rfl
@[simp] theorem State.writeRegister_sp (s : State) (r : HwReg) (v : Byte) : (s.writeRegister r v).sp = s.sp := by
  cases r <;> rfl
@[simp] theorem State.writeRegister_pc (s : State) (r : HwReg) (v : Byte) : (s.writeRegister r v).pc = s.pc := by
  cases r <;> rfl
@[simp] theorem State.writeRegister_ime (s : State) (r : HwReg) (v : Byte) : (s.writeRegister r v).ime = s.ime := by
  cases r <;> rfl
@[simp] theorem State.writeRegister_mode (s : State) (r : HwReg) (v : Byte) : (s.writeRegister r v).mode = s.mode := by
  cases r <;> rfl
@[simp] theorem State.writeRegister_saved (s : State) (r : HwReg) (v : Byte) : (s.writeRegister r v).saved = s.saved := by
  cases r <;> rfl
@[simp] theorem State.writeRegister_cycles (s : State) (r : HwReg) (v : Byte) : (s.writeRegister r v).cycles = s.cycles := by
  cases r <;> rfl
@[simp] theorem State.writeRegister_timaAcc (s : State) (r : HwReg) (v : Byte) : (s.writeRegister r v).timaAcc = s.timaAcc := by
  cases r <;> rfl
@[simp] theorem State.writeRegister_params (s : State) (r : HwReg) (v : Byte) : (s.writeRegister r v).params = s.params := by
  cases r <;> rfl
@[simp] theorem State.writeRegister_buttons (s : State) (r : HwReg) (v : Byte) : (s.writeRegister r v).buttons = s.buttons := by
  cases r <;> rfl

@[simp] theorem State.writeRegister_mem (s : State) (r : HwReg) (v : Byte) : (s.writeRegister r v).mem = s.mem := by
  cases r <;> rfl

@[simp] theorem State.memWriteNoCopy_af (s : State) (a : Word) (v : Byte) : (s.memWriteNoCopy a v).af = s.af := by
  unfold State.memWriteNoCopy; split <;> simp
@[simp] theorem State.memWriteNoCopy_bc (s : State) (a : Word) (v : Byte) : (s.memWriteNoCopy a v).bc = s.bc := by
  unfold State.memWriteNoCopy; split <;> simp
@[simp] theorem State.memWriteNoCopy_de (s : State) (a : Word) (v : Byte) : (s.memWriteNoCopy a v).de = s.de := by
  unfold State.memWriteNoCopy; split <;> simp
@[simp] theorem State.memWriteNoCopy_hl (s : State) (a : Word) (v : Byte) : (s.memWriteNoCopy a v).hl = s.hl := by
  unfold State.memWriteNoCopy; split <;> simp
@[simp] theorem State.memWriteNoCopy_sp (s : State) (a : Word) (v : Byte) : (s.memWriteNoCopy a v).sp = s.sp := by
  unfold State.memWriteNoCopy; split <;> simp
@[simp] theorem State.memWriteNoCopy_pc (s : State) (a : Word) (v : Byte) : (s.memWriteNoCopy a v).pc = s.pc := by
  unfold State.memWriteNoCopy; split <;> simp
@[simp] theorem State.memWriteNoCopy_ime (s : State) (a : Word) (v : Byte) : (s.memWriteNoCopy a v).ime = s.ime := by
  unfold State.memWriteNoCopy; split <;> simp
@[simp] theorem State.memWriteNoCopy_mode (s : State) (a : Word) (v : Byte) : (s.memWriteNoCopy a v).mode = s.mode := by
  unfold State.memWriteNoCopy; split <;> simp
@[simp] theorem State.memWriteNoCopy_saved (s : State) (a : Word) (v : Byte) : (s.memWriteNoCopy a v).saved = s.saved := by
  unfold State.memWriteNoCopy; split <;> simp
@[simp] theorem State.memWriteNoCopy_cycles (s : State) (a : Word) (v : Byte) : (s.memWriteNoCopy a v).cycles = s.cycles := by
  unfold State.memWriteNoCopy; split <;> simp
@[simp] theorem State.memWriteNoCopy_timaAcc (s : State) (a : Word) (v : Byte) : (s.memWriteNoCopy a v).timaAcc = s.timaAcc := by
  unfold State.memWriteNoCopy; split <;> simp
@[simp] theorem State.memWriteNoCopy_params (s : State) (a : Word) (v : Byte) : (s.memWriteNoCopy a v).params = s.params := by
  unfold State.memWriteNoCopy; split <;> simp
@[simp] theorem State.memWriteNoCopy_buttons (s : State) (a : Word) (v : Byte) : (s.memWriteNoCopy a v).buttons = s.buttons := by
  unfold State.memWriteNoCopy; split <;> simp

/-- What no byte write changes, no DMA copy changes. -/
theorem State.dmaCopy_keeps {α : Type} (f : State → α) (h : ∀ s a v, f (s.memWriteNoCopy a v) = f s) (s : State) (page : Byte) :
    f (s.dmaCopy page) = f s := by
  unfold State.dmaCopy
  generalize List.range 256 = l
  induction l generalizing s with
  | nil => rfl
  | cons i rest ih => rw [List.foldl_cons, ih, h]

/-- What no byte write without a copy changes, no byte write changes. -/
theorem State.memWrite_keeps {α : Type} (f : State → α) (h : ∀ s a v, f (s.memWriteNoCopy a v) = f s) (s : State) (a : Word)
    (v : Byte) : f (s.memWrite a v) = f s := by
  unfold State.memWrite
  split
  · rw [State.dmaCopy_keeps f h, h]
  · exact h s a v

@[simp] theorem State.memWrite_af (s : State) (a : Word) (v : Byte) : (s.memWrite a v).af = s.af :=
  State.memWrite_keeps State.af (fun s a v => State.memWriteNoCopy_af s a v) s a v
@[simp] theorem State.memWrite_bc (s : State) (a : Word) (v : Byte) : (s.memWrite a v).bc = s.bc :=
  State.memWrite_keeps State.bc (fun s a v => State.memWriteNoCopy_bc s a v) s a v
@[simp] theorem State.memWrite_de (s : State) (a : Word) (v : Byte) : (s.memWrite a v).de = s.de :=
  State.memWrite_keeps State.de (fun s a v => State.memWriteNoCopy_de s a v) s a v
@[simp] theorem State.memWrite_hl (s : State) (a : Word) (v : Byte) : (s.memWrite a v).hl = s.hl :=
  State.memWrite_keeps State.hl (fun s a v => State.memWriteNoCopy_hl s a v) s a v
@[simp] theorem State.memWrite_sp (s : State) (a : Word) (v : Byte) : (s.memWrite a v).sp = s.sp :=
  State.memWrite_keeps State.sp (fun s a v => State.memWriteNoCopy_sp s a v) s a v
@[simp] theorem State.memWrite_pc (s : State) (a : Word) (v : Byte) : (s.memWrite a v).pc = s.pc :=
  State.memWrite_keeps State.pc (fun s a v => State.memWriteNoCopy_pc s a v) s a v
@[simp] theorem State.memWrite_ime (s : State) (a : Word) (v : Byte) : (s.memWrite a v).ime = s.ime :=
  State.memWrite_keeps State.ime (fun s a v => State.memWriteNoCopy_ime s a v) s a v
@[simp] theorem State.memWrite_mode (s : State) (a : Word) (v : Byte) : (s.memWrite a v).mode = s.mode :=
  State.memWrite_keeps State.mode (fun s a v => State.memWriteNoCopy_mode s a v) s a v
@[simp] theorem State.memWrite_saved (s : State) (a : Word) (v : Byte) : (s.memWrite a v).saved = s.saved :=
  State.memWrite_keeps State.saved (fun s a v => State.memWriteNoCopy_saved s a v) s a v
@[simp] theorem State.memWrite_cycles (s : State) (a : Word) (v : Byte) : (s.memWrite a v).cycles = s.cycles :=
  State.memWrite_keeps State.cycles (fun s a v => State.memWriteNoCopy_cycles s a v) s a v
@[simp] theorem State.memWrite_timaAcc (s : State) (a : Word) (v : Byte) : (s.memWrite a v).timaAcc = s.timaAcc :=
  State.memWrite_keeps State.timaAcc (fun s a v => State.memWriteNoCopy_timaAcc s a v) s a v
@[simp] theorem State.memWrite_params (s : State) (a : Word) (v : Byte) : (s.memWrite a v).params = s.params :=
  State.memWrite_keeps State.params (fun s a v => State.memWriteNoCopy_params s a v) s a v
@[simp] theorem State.memWrite_buttons (s : State) (a : Word) (v : Byte) : (s.memWrite a v).buttons = s.buttons :=
  State.memWrite_keeps State.buttons (fun s a v => State.memWriteNoCopy_buttons s a v) s a v

@[simp] theorem State.memWrite16_af (s : State) (a w : Word) : (s.memWrite16 a w).af = s.af := by
  simp [State.memWrite16]
@[simp] theorem State.memWrite16_bc (s : State) (a w : Word) : (s.memWrite16 a w).bc = s.bc := by
  simp [State.memWrite16]
@[simp] theorem State.memWrite16_de (s : State) (a w : Word) : (s.memWrite16 a w).de = s.de := by
  simp [State.memWrite16]
@[simp] theorem State.memWrite16_hl (s : State) (a w : Word) : (s.memWrite16 a w).hl = s.hl := by
  simp [State.memWrite16]
@[simp] theorem State.memWrite16_sp (s : State) (a w : Word) : (s.memWrite16 a w).sp = s.sp := by
  simp [State.memWrite16]
@[simp] theorem State.memWrite16_pc (s : State) (a w : Word) : (s.memWrite16 a w).pc = s.pc := by
  simp [State.memWrite16]
@[simp] theorem State.memWrite16_ime (s : State) (a w : Word) : (s.memWrite16 a w).ime = s.ime := by
  simp [State.memWrite16]
@[simp] theorem State.memWrite16_mode (s : State) (a w : Word) : (s.memWrite16 a w).mode = s.mode := by
  simp [State.memWrite16]
@[simp] theorem State.memWrite16_saved (s : State) (a w : Word) : (s.memWrite16 a w).saved = s.saved := by
  simp [State.memWrite16]
@[simp] theorem State.memWrite16_cycles (s : State) (a w : Word) : (s.memWrite16 a w).cycles = s.cycles := by
  simp [State.memWrite16]
@[simp] theorem State.memWrite16_timaAcc (s : State) (a w : Word) : (s.memWrite16 a w).timaAcc = s.timaAcc := by
  simp [State.memWrite16]
@[simp] theorem State.memWrite16_params (s : State) (a w : Word) : (s.memWrite16 a w).params = s.params := by
  simp [State.memWrite16]
@[simp] theorem State.memWrite16_buttons (s : State) (a w : Word) : (s.memWrite16 a w).buttons = s.buttons := by
  simp [State.memWrite16]

@[simp] theorem State.push16_af (s : State) (w : Word) : (s.push16 w).af = s.af := by
  simp [State.push16]
@[simp] theorem State.push16_bc (s : State) (w : Word) : (s.push16 w).bc = s.bc := by
  simp [State.push16]
@[simp] theorem State.push16_de (s : State) (w : Word) : (s.push16 w).de = s.de := by
  simp [State.push16]
@[simp] theorem State.push16_hl (s : State) (w : Word) : (s.push16 w).hl = s.hl := by
  simp [State.push16]
@[simp] theorem State.push16_pc (s : State) (w : Word) : (s.push16 w).pc = s.pc := by
  simp [State.push16]
@[simp] theorem State.push16_ime (s : State) (w : Word) : (s.push16 w).ime = s.ime := by
  simp [State.push16]
@[simp] theorem State.push16_mode (s : State) (w : Word) : (s.push16 w).mode = s.mode := by
  simp [State.push16]
@[simp] theorem State.push16_saved (s : State) (w : Word) : (s.push16 w).saved = s.saved := by
  simp [State.push16]
@[simp] theorem State.push16_cycles (s : State) (w : Word) : (s.push16 w).cycles = s.cycles := by
  simp [State.push16]
@[simp] theorem State.push16_timaAcc (s : State) (w : Word) : (s.push16 w).timaAcc = s.timaAcc := by
  simp [State.push16]
@[simp] theorem State.push16_params (s : State) (w : Word) : (s.push16 w).params = s.params := by
  simp [State.push16]
@[simp] theorem State.push16_buttons (s : State) (w : Word) : (s.push16 w).buttons = s.buttons := by
  simp [State.push16]
@[simp] theorem State.push16_sp (s : State) (w : Word) : (s.push16 w).sp = s.sp - 2 := by
  simp [State.push16]

@[simp] theorem State.memWriteNoCopy_getR8 (s : State) (a : Word) (v : Byte) (r : Reg8) : (s.memWriteNoCopy a v).getR8 r = s.getR8 r := by
  cases r <;> simp [State.getR8]
@[simp] theorem State.memWriteNoCopy_getA (s : State) (a : Word) (v : Byte) : (s.memWriteNoCopy a v).getA = s.getA := by simp [State.getA]
@[simp] theorem State.memWriteNoCopy_getF (s : State) (a : Word) (v : Byte) : (s.memWriteNoCopy a v).getF = s.getF := by simp [State.getF]
@[simp] theorem State.memWriteNoCopy_flags (s : State) (a : Word) (v : Byte) : (s.memWriteNoCopy a v).flags = s.flags := by simp [State.flags]
@[simp] theorem State.memWrite_getR8 (s : State) (a : Word) (v : Byte) (r : Reg8) : (s.memWrite a v).getR8 r = s.getR8 r := by
  cases r <;> simp [State.getR8]
@[simp] theorem State.memWrite_getA (s : State) (a : Word) (v : Byte) : (s.memWrite a v).getA = s.getA := by simp [State.getA]
@[simp] theorem State.memWrite_getF (s : State) (a : Word) (v : Byte) : (s.memWrite a v).getF = s.getF := by simp [State.getF]
@[simp] theorem State.memWrite_flags (s : State) (a : Word) (v : Byte) : (s.memWrite a v).flags = s.flags := by simp [State.flags]
@[simp] theorem State.memWrite16_getR8 (s : State) (a w : Word) (r : Reg8) : (s.memWrite16 a w).getR8 r = s.getR8 r := by
  cases r <;> simp [State.getR8]
@[simp] theorem State.memWrite16_getA (s : State) (a w : Word) : (s.memWrite16 a w).getA = s.getA := by simp [State.getA]
@[simp] theorem State.memWrite16_getF (s : State) (a w : Word) : (s.memWrite16 a w).getF = s.getF := by simp [State.getF]
@[simp] theorem State.memWrite16_flags (s : State) (a w : Word) : (s.memWrite16 a w).flags = s.flags := by simp [State.flags]
@[simp] theorem State.push16_getR8 (s : State) (w : Word) (r : Reg8) : (s.push16 w).getR8 r = s.getR8 r := by
  cases r <;> simp [State.getR8]
@[simp] theorem State.push16_getA (s : State) (w : Word) : (s.push16 w).getA = s.getA := by simp [State.getA]
@[simp] theorem State.push16_getF (s : State) (w : Word) : (s.push16 w).getF = s.getF := by simp [State.getF]
@[simp] theorem State.push16_flags (s : State) (w : Word) : (s.push16 w).flags = s.flags := by simp [State.flags]

/-! ### What a byte write changes -/

theorem State.memWriteNoCopy_dma (s : State) (v : Byte) : s.memWriteNoCopy HwReg.dma.addr v = { s with io := s.io.set .dma v } := by
  simp [State.memWriteNoCopy, decodeAddr_register, State.writeRegister]

/-- A byte write that is not to the DMA trigger copies nothing. -/
theorem State.memWrite_noCopy (s : State) {a : Word} (h : a ≠ HwReg.dma.addr) (v : Byte) :
    s.memWrite a v = s.memWriteNoCopy a v := by
  simp [State.memWrite, h]

/-- A write of a register other than the DMA trigger. -/
theorem State.memWrite_register (s : State) {r : HwReg} (h : r ≠ .dma) (v : Byte) : s.memWrite r.addr v = s.writeRegister r v := by
  rw [State.memWrite_noCopy s (fun e => h (HwReg.addr_inj e))]
  simp [State.memWriteNoCopy, decodeAddr_register]

/-- Where a write stores plainly: RAM, OAM, HRAM (R66, R67, R69). -/
def PlainStore (a : Word) : Prop := (0x8000 ≤ a.toNat ∧ a.toNat ≤ 0xFEFF) ∨ (0xFF80 ≤ a.toNat ∧ a.toNat ≤ 0xFFFE)

theorem PlainStore.not_register {a : Word} (h : PlainStore a) (r : HwReg) : a ≠ r.addr := by
  intro e
  subst e
  have h1 := r.addr_ge
  have h2 := r.addr_not_hram
  rcases h with h | h <;> omega

theorem State.memWriteNoCopy_plain (s : State) {a : Word} (h : PlainStore a) (v : Byte) :
    s.memWriteNoCopy a v = { s with mem := s.mem.set a.toNat v } := by
  have hd : decodeAddr s.bootEnabled a = .ram ∨ decodeAddr s.bootEnabled a = .oam ∨ decodeAddr s.bootEnabled a = .hram := by
    rcases h with ⟨h1, h2⟩ | ⟨h1, h2⟩
    · rcases Nat.lt_or_ge 0xFDFF a.toNat with h3 | h3
      · exact .inr (.inl (decodeAddr_oam (by omega) h2))
      · exact .inl (decodeAddr_ram h1 h3)
    · exact .inr (.inr (decodeAddr_hram h1 h2))
  unfold State.memWriteNoCopy
  rcases hd with hd | hd | hd <;> rw [hd]

theorem State.memRead_plain (s : State) {a : Word} (h : PlainStore a) : s.memRead a = s.memByte a.toNat := by
  have hd : decodeAddr s.bootEnabled a = .ram ∨ decodeAddr s.bootEnabled a = .oam ∨ decodeAddr s.bootEnabled a = .hram := by
    rcases h with ⟨h1, h2⟩ | ⟨h1, h2⟩
    · rcases Nat.lt_or_ge 0xFDFF a.toNat with h3 | h3
      · exact .inr (.inl (decodeAddr_oam (by omega) h2))
      · exact .inl (decodeAddr_ram h1 h3)
    · exact .inr (.inr (decodeAddr_hram h1 h2))
  unfold State.memRead
  rcases hd with hd | hd | hd <;> rw [hd]

/-- A plain store changes one cell of memory and nothing else. -/
theorem State.memWrite_plain (s : State) {a : Word} (h : PlainStore a) (v : Byte) :
    s.memWrite a v = { s with mem := s.mem.set a.toNat v } := by
  rw [State.memWrite_noCopy s (h.not_register .dma), State.memWriteNoCopy_plain s h]

theorem State.memRead_register (s : State) (r : HwReg) : s.memRead r.addr = s.readRegister r := by
  simp [State.memRead, decodeAddr_register]

/-- Two states that agree on the overlay, memory, the registers, the parameters and the buttons read alike. -/
theorem State.memRead_congr {s t : State} (h1 : t.bootEnabled = s.bootEnabled) (h3 : t.mem = s.mem)
    (h4 : t.io = s.io) (h5 : t.params = s.params) (h6 : t.buttons = s.buttons) (a : Word) : t.memRead a = s.memRead a := by
  simp only [State.memRead, State.memByte, State.romByte, State.bootByte, State.readRegister, h1, h3, h4, h5, h6]

end Sys2Proof.Machine
end

