-- ==== Sys2Proof/Laws/Writes.lean ====
section
/-! SUPPORT. What every address reads as after a byte write, and what the DMA copy does. -/
namespace Sys2Proof.Machine

/-- Giving up the overlay changes the decoding of the overlay's addresses only. -/
theorem decodeAddr_above {x : Word} (h : 0x00FF < x.toNat) (b c : Bool) : decodeAddr b x = decodeAddr c x := by
  have h0 : ¬x.toNat ≤ 0x00FF := by omega
  simp [decodeAddr, h0]

theorem State.readRegister_writeRegister_other (s : State) {r q : HwReg} (h : q ≠ r) (v : Byte) :
    (s.writeRegister r v).readRegister q = s.readRegister q := by
  cases r <;> cases q <;> first | rfl | exact absurd rfl h

/-- A write without a copy leaves the byte at every other address, but for the overlay's addresses after a write of `BOOT`. -/
theorem State.memRead_memWriteNoCopy_other (s : State) {a x : Word} (v : Byte) (hx : x ≠ a)
    (hb : ¬(a = HwReg.boot.addr ∧ x.toNat ≤ 0x00FF)) : (s.memWriteNoCopy a v).memRead x = s.memRead x := by
  have hn : x.toNat ≠ a.toNat := fun e => hx (BitVec.eq_of_toNat_eq e)
  have stored : ({ s with mem := s.mem.set a.toNat v } : State).memRead x = s.memRead x := by
    simp only [State.memRead, State.romByte, State.bootByte, State.readRegister, State.memByte_set_other s v hn]
  rcases decodeAddr_cases s.bootEnabled a with h | h | h | h | ⟨r, h, rfl⟩ | h | h
  · simp [State.memWriteNoCopy, h.1]
  · simp [State.memWriteNoCopy, h.1]
  · simpa [State.memWriteNoCopy, h.1] using stored
  · simpa [State.memWriteNoCopy, h.1] using stored
  · have hw : s.memWriteNoCopy r.addr v = s.writeRegister r v := by simp [State.memWriteNoCopy, h]
    have hd : decodeAddr (s.writeRegister r v).bootEnabled x = decodeAddr s.bootEnabled x := by
      by_cases hr : r = .boot
      · subst hr
        exact decodeAddr_above (by rcases Nat.lt_or_ge 0x00FF x.toNat with h' | h'; exact h'; exact absurd ⟨rfl, h'⟩ hb) _ _
      · have : (s.writeRegister r v).bootEnabled = s.bootEnabled := by cases r <;> first | rfl | exact absurd rfl hr
        rw [this]
    rw [hw]
    simp only [State.memRead, hd, State.memByte, State.romByte, State.bootByte, State.writeRegister_mem, State.writeRegister_params]
    rcases decodeAddr_cases s.bootEnabled x with h' | h' | h' | h' | ⟨q, h', rfl⟩ | h' | h'
    · simp [h'.1]
    · simp [h'.1]
    · simp [h'.1]
    · simp [h'.1]
    · simp only [h']
      exact State.readRegister_writeRegister_other s (fun e => hx (congrArg HwReg.addr e)) v
    · simp [h'.1]
    · simp [h'.1]
  · simpa [State.memWriteNoCopy, h.1] using stored
  · simp [State.memWriteNoCopy, h.1]

/-- The OAM address of offset `i`. -/
theorem oamAddr_toNat {i : Nat} (h : i < 256) : (0xFE00#16 + BitVec.ofNat 16 i).toNat = 0xFE00 + i := by
  simp [BitVec.toNat_add]
  omega

theorem sourceAddr_toNat {i : Nat} (h : i < 256) (page : Byte) :
    (joinBytes (BitVec.ofNat 8 i) page).toNat = page.toNat * 256 + i := by
  rw [joinBytes_toNat]
  simp
  omega

/-- The first `n` bytes of the DMA copy: only memory changes, its canonical form and its stores are kept, each of the first `n`
bytes of OAM reads as its source did, and every other address reads as before. -/
theorem State.dmaCopy_prefix (s : State) (page : Byte) (n : Nat) (hn : n ≤ 256) :
    ∃ m : Memory,
      (List.range n).foldl
          (fun t i => t.memWriteNoCopy (0xFE00#16 + BitVec.ofNat 16 i) (t.memRead (joinBytes (BitVec.ofNat 8 i) page))) s
        = { s with mem := m } ∧
      (s.mem.wf → m.wf) ∧
      (∀ c ∈ m, c ∈ s.mem ∨ (0xFE00 ≤ c.1 ∧ c.1 ≤ 0xFEFF)) ∧
      (∀ i, i < n → ({ s with mem := m } : State).memRead (0xFE00#16 + BitVec.ofNat 16 i)
        = s.memRead (joinBytes (BitVec.ofNat 8 i) page)) ∧
      (∀ x : Word, (x.toNat < 0xFE00 ∨ 0xFE00 + n ≤ x.toNat) → ({ s with mem := m } : State).memRead x = s.memRead x) := by
  induction n with
  | zero => exact ⟨s.mem, rfl, id, fun c hc => .inl hc, fun i hi => absurd hi (by omega), fun x _ => rfl⟩
  | succ n ih =>
    obtain ⟨m, he, hwf, hmem, hin, hout⟩ := ih (by omega)
    have hdst := oamAddr_toNat (i := n) (by omega)
    have hplain : PlainStore (0xFE00#16 + BitVec.ofNat 16 n) := .inl ⟨by omega, by omega⟩
    have hsrc : ({ s with mem := m } : State).memRead (joinBytes (BitVec.ofNat 8 n) page)
        = s.memRead (joinBytes (BitVec.ofNat 8 n) page) := by
      apply hout
      rw [sourceAddr_toNat (by omega)]
      omega
    refine ⟨m.set (0xFE00 + n) (s.memRead (joinBytes (BitVec.ofNat 8 n) page)), ?_, ?_, ?_, ?_, ?_⟩
    · rw [List.range_succ, List.foldl_append, he, List.foldl_cons, List.foldl_nil, State.memWriteNoCopy_plain _ hplain, hsrc, hdst]
    · exact fun h => Memory.wf_set (hwf h) (by omega) _
    · intro c hc
      rcases Memory.mem_set hc with rfl | hc
      · exact .inr ⟨by simp, by simp; omega⟩
      · exact hmem c hc
    · intro i hi
      have hiaddr := oamAddr_toNat (i := i) (by omega)
      have hp : PlainStore (0xFE00#16 + BitVec.ofNat 16 i) := .inl ⟨by omega, by omega⟩
      rw [State.memRead_plain _ hp, hiaddr]
      by_cases h : i = n
      · subst h
        exact Memory.get_set_same m Config.initMem _ _
      · have := hin i (by omega)
        rw [State.memRead_plain _ hp, hiaddr] at this
        exact (Memory.get_set_other m Config.initMem _ (by omega)).trans this
    · intro x hx
      rw [← hout x (by omega)]
      have hne : x.toNat ≠ 0xFE00 + n := by omega
      simp only [State.memRead, State.memByte, State.romByte, State.bootByte, State.readRegister, Memory.get_set_other m Config.initMem _ hne]

/-- The DMA copy (R80): only memory changes; every byte of OAM reads as its source did, every other address as before. -/
theorem State.dmaCopy_spec (s : State) (page : Byte) :
    ∃ m : Memory, s.dmaCopy page = { s with mem := m } ∧ (s.mem.wf → m.wf) ∧
      (∀ c ∈ m, c ∈ s.mem ∨ (0xFE00 ≤ c.1 ∧ c.1 ≤ 0xFEFF)) ∧
      (∀ i, i < 256 → (s.dmaCopy page).memRead (0xFE00#16 + BitVec.ofNat 16 i) = s.memRead (joinBytes (BitVec.ofNat 8 i) page)) ∧
      (∀ x : Word, (x.toNat < 0xFE00 ∨ 0xFEFF < x.toNat) → (s.dmaCopy page).memRead x = s.memRead x) := by
  obtain ⟨m, he, hwf, hmem, hin, hout⟩ := State.dmaCopy_prefix s page 256 (Nat.le_refl _)
  have he' : s.dmaCopy page = { s with mem := m } := he
  rw [he']
  exact ⟨m, rfl, hwf, hmem, hin, fun x hx => hout x (by omega)⟩

/-- Once for all: what a byte write can do. Either it copies nothing and is the plain controller write, or it is a write of the
DMA trigger with a valid page, which stores the page and copies. -/
theorem State.memWrite_cases (s : State) (a : Word) (v : Byte) :
    (s.memWrite a v = s.memWriteNoCopy a v) ∨
    (a = HwReg.dma.addr ∧ v.toNat ≤ s.params.dmaPageMax.toNat ∧
      s.memWrite a v = ({ s with io := s.io.set .dma v } : State).dmaCopy v) := by
  by_cases h : a = HwReg.dma.addr ∧ v.toNat ≤ s.params.dmaPageMax.toNat
  · right
    obtain ⟨rfl, hv⟩ := h
    exact ⟨rfl, hv, by simp [State.memWrite, hv, State.memWriteNoCopy_dma]⟩
  · left
    simp [State.memWrite, h]

/-- A byte write leaves the byte at every address it does not touch. -/
theorem State.memRead_memWrite_other (s : State) {a x : Word} (v : Byte) (h : ¬Touched a x) :
    (s.memWrite a v).memRead x = s.memRead x := by
  have hx : x ≠ a := fun e => h (.inl e)
  have hnc := State.memRead_memWriteNoCopy_other s v hx (fun hb => h (.inr (.inr hb)))
  rcases State.memWrite_cases s a v with e | ⟨rfl, _, e⟩
  · rw [e, hnc]
  · have hoam : x.toNat < 0xFE00 ∨ 0xFEFF < x.toNat := by
      by_cases h1 : 0xFE00 ≤ x.toNat ∧ x.toNat ≤ 0xFEFF
      · exact absurd (.inr (.inl ⟨rfl, h1.1, h1.2⟩)) h
      · omega
    obtain ⟨m, _, _, _, _, hout⟩ := State.dmaCopy_spec ({ s with io := s.io.set .dma v } : State) v
    rw [e, hout x hoam, ← State.memWriteNoCopy_dma, hnc]

/-- A byte write leaves every hardware register but the one at its address. -/
theorem State.memWrite_io_other (s : State) {a : Word} {r : HwReg} (v : Byte) (h : a ≠ r.addr) :
    (s.memWrite a v).io.get r = s.io.get r := by
  have hnc : (s.memWriteNoCopy a v).io.get r = s.io.get r := by
    rcases decodeAddr_cases s.bootEnabled a with hd | hd | hd | hd | ⟨q, hd, rfl⟩ | hd | hd
    case inr.inr.inr.inr.inl =>
      have hq : r ≠ q := fun e => h (congrArg HwReg.addr e.symm)
      simp only [State.memWriteNoCopy, hd]
      cases q <;> exact HwRegs.get_set_other s.io hq _
    all_goals simp [State.memWriteNoCopy, hd.1]
  rcases State.memWrite_cases s a v with e | ⟨rfl, _, e⟩
  · rw [e, hnc]
  · obtain ⟨m, he, _⟩ := State.dmaCopy_spec ({ s with io := s.io.set .dma v } : State) v
    rw [e, he]
    exact HwRegs.get_set_other s.io (fun e => h (congrArg HwReg.addr e.symm)) v

theorem State.memWrite_divAcc (s : State) {a : Word} (v : Byte) (h : a ≠ HwReg.div.addr) : (s.memWrite a v).divAcc = s.divAcc := by
  rcases State.memWrite_cases s a v with e | ⟨rfl, _, e⟩
  · rw [e]
    rcases decodeAddr_cases s.bootEnabled a with hd | hd | hd | hd | ⟨q, hd, rfl⟩ | hd | hd
    case inr.inr.inr.inr.inl =>
      simp only [State.memWriteNoCopy, hd]
      cases q <;> first | rfl | exact absurd rfl h
    all_goals simp [State.memWriteNoCopy, hd.1]
  · obtain ⟨m, he, _⟩ := State.dmaCopy_spec ({ s with io := s.io.set .dma v } : State) v
    rw [e, he]

theorem State.memWrite_bootEnabled (s : State) {a : Word} (v : Byte) (h : a ≠ HwReg.boot.addr) :
    (s.memWrite a v).bootEnabled = s.bootEnabled := by
  rcases State.memWrite_cases s a v with e | ⟨rfl, _, e⟩
  · rw [e]
    rcases decodeAddr_cases s.bootEnabled a with hd | hd | hd | hd | ⟨q, hd, rfl⟩ | hd | hd
    case inr.inr.inr.inr.inl =>
      simp only [State.memWriteNoCopy, hd]
      cases q <;> first | rfl | exact absurd rfl h
    all_goals simp [State.memWriteNoCopy, hd.1]
  · obtain ⟨m, he, _⟩ := State.dmaCopy_spec ({ s with io := s.io.set .dma v } : State) v
    rw [e, he]

/-- A byte write never sets the overlay again (R39). -/
theorem State.memWrite_bootEnabled_mono (s : State) (a : Word) (v : Byte) (h : s.bootEnabled = false) :
    (s.memWrite a v).bootEnabled = false := by
  by_cases ha : a = HwReg.boot.addr
  · subst ha
    rw [State.memWrite_register s (by decide)]
    rfl
  · rw [State.memWrite_bootEnabled s v ha, h]

/-- A byte write keeps the invariant. -/
theorem State.memWrite_inv (s : State) (a : Word) (v : Byte) (h : s.Inv) : (s.memWrite a v).Inv := by
  obtain ⟨hm, hb, hs, hl, hp⟩ := h
  have plain : ((0x8000 ≤ a.toNat ∧ a.toNat ≤ 0xFEFF) ∨ (0xFF80 ≤ a.toNat ∧ a.toNat ≤ 0xFFFE)) →
      ({ s with mem := s.mem.set a.toNat v } : State).Inv := by
    intro ha
    refine ⟨Memory.wf_set hm (by have := a.isLt; omega) v, hb, fun c hc => ?_, hl, hp⟩
    rcases Memory.mem_set hc with rfl | hc
    · exact ha
    · exact hs c hc
  have hnc : (s.memWriteNoCopy a v).Inv := by
    rcases decodeAddr_cases s.bootEnabled a with hd | hd | hd | hd | ⟨q, hd, rfl⟩ | hd | hd
    case inr.inr.inl => simpa only [State.memWriteNoCopy, hd.1] using plain (.inl ⟨hd.2.1, by omega⟩)
    case inr.inr.inr.inl => simpa only [State.memWriteNoCopy, hd.1] using plain (.inl ⟨by omega, hd.2.2⟩)
    case inr.inr.inr.inr.inr.inl => simpa only [State.memWriteNoCopy, hd.1] using plain (.inr hd.2)
    case inr.inr.inr.inr.inl =>
      simp only [State.memWriteNoCopy, hd]
      cases q <;> first | exact ⟨hm, hb, hs, hl, hp⟩ | exact ⟨hm, hb, hs, hl, Nat.zero_lt_succ 255, hp.2⟩
    all_goals simpa only [State.memWriteNoCopy, hd.1] using (⟨hm, hb, hs, hl, hp⟩ : s.Inv)
  rcases State.memWrite_cases s a v with e | ⟨rfl, _, e⟩
  · rw [e]
    exact hnc
  · obtain ⟨m, he, hwf, hmem, _⟩ := State.dmaCopy_spec ({ s with io := s.io.set .dma v } : State) v
    rw [e, he]
    refine ⟨hwf hm, hb, fun c hc => ?_, hl, hp⟩
    rcases hmem c hc with hc | hc
    · exact hs c hc
    · exact .inl ⟨by omega, hc.2⟩

end Sys2Proof.Machine
end

