-- ==== Sys2Proof/Laws/Frames.lean ====
section
/-! SUPPORT. What each shared operation of the instructions answers: the next state, its result, its frame. -/
namespace Sys2Proof.Machine

/-! ### Building a frame -/

/-- A state that differs from `s` in registers, `IME`, `mode` and `cycles` alone keeps the rest of the machine. -/
theorem KeepsMachine.intro {s t : State} (hm : t.mem = s.mem) (hio : t.io = s.io)
    (he : t.bootEnabled = s.bootEnabled) (hd : t.divAcc = s.divAcc) (ht : t.timaAcc = s.timaAcc) (hs : t.saved = s.saved)
    (hp : t.params = s.params) (hbt : t.buttons = s.buttons) : KeepsMachine s t :=
  ⟨State.memRead_congr he hm hio hp hbt, hm, hio, he, hd, ht, hs, hp, hbt⟩

/-- The registers' values are determined by the six cells. -/
theorem regVal_congr {s t : State} (haf : t.af = s.af) (hbc : t.bc = s.bc) (hde : t.de = s.de) (hhl : t.hl = s.hl) (hsp : t.sp = s.sp)
    (hpc : t.pc = s.pc) (r : RegName) : t.regVal r = s.regVal r := by
  cases r <;> simp [State.regVal, State.getA, State.getF, State.getR8, haf, hbc, hde, hhl, hsp, hpc]

@[simp] theorem State.charge_regVal (s : State) (n : Nat) (r : RegName) : (s.charge n).regVal r = s.regVal r := by
  cases r <;> rfl

@[simp] theorem State.charge_memRead (s : State) (n : Nat) (a : Word) : (s.charge n).memRead a = s.memRead a := rfl

theorem State.setR8_regVal (s : State) (dst : Reg8) (v : Byte) {r : RegName} (h : r ≠ regNameOf dst) :
    (s.setR8 dst v).regVal r = s.regVal r := by
  cases dst <;> cases r <;> first | rfl | exact absurd rfl h | simp [State.regVal, State.setR8, State.getR8, State.getF]

theorem State.setFlags_regVal (s : State) (f : Flags) {r : RegName} (h : r ≠ .f) : (s.setFlags f).regVal r = s.regVal r := by
  cases r <;> first | rfl | exact absurd rfl h | simp [State.regVal]

theorem State.setR16_regVal (s : State) (p : Reg16) (w : Word) {r : RegName} (h : r ∉ pairNames p) :
    (s.setR16 p w).regVal r = s.regVal r := by
  cases p <;> cases r <;> first | rfl | exact absurd (by simp [pairNames]) h

theorem State.setStk16_regVal (s : State) (q : Stk16) (w : Word) {r : RegName} (h : r ∉ stkNames q) :
    (s.setStk16 q w).regVal r = s.regVal r := by
  cases q <;> cases r <;> first | rfl | exact absurd (by simp [stkNames]) h

/-- A state built by register writes keeps the machine. -/
theorem KeepsMachine.setR8 (s : State) (dst : Reg8) (v : Byte) : KeepsMachine s (s.setR8 dst v) := by
  cases dst <;> exact KeepsMachine.intro rfl rfl rfl rfl rfl rfl rfl rfl

theorem KeepsMachine.setFlags (s : State) (f : Flags) : KeepsMachine s (s.setFlags f) :=
  KeepsMachine.intro rfl rfl rfl rfl rfl rfl rfl rfl

theorem KeepsMachine.setR16 (s : State) (p : Reg16) (w : Word) : KeepsMachine s (s.setR16 p w) := by
  cases p <;> exact KeepsMachine.intro rfl rfl rfl rfl rfl rfl rfl rfl

theorem KeepsMachine.setStk16 (s : State) (q : Stk16) (w : Word) : KeepsMachine s (s.setStk16 q w) := by
  cases q <;> exact KeepsMachine.intro rfl rfl rfl rfl rfl rfl rfl rfl

theorem KeepsMachine.charge (s : State) (n : Nat) : KeepsMachine s (s.charge n) :=
  KeepsMachine.intro rfl rfl rfl rfl rfl rfl rfl rfl

theorem KeepsMachine.trans {s t u : State} (h : KeepsMachine s t) (k : KeepsMachine t u) : KeepsMachine s u := by
  obtain ⟨h0, h1, h2, h3, h4, h5, h6, h7, h8⟩ := h
  obtain ⟨k0, k1, k2, k3, k4, k5, k6, k7, k8⟩ := k
  exact ⟨fun a => (k0 a).trans (h0 a), k1.trans h1, k2.trans h2, k3.trans h3, k4.trans h4, k5.trans h5, k6.trans h6, k7.trans h7,
    k8.trans h8⟩

theorem KeepsMachine.memRead {s t : State} (h : KeepsMachine s t) (a : Word) : t.memRead a = s.memRead a := h.1 a

/-- The frame of a charge after a state with the rest of the frame. -/
theorem ChangesControl.charge {regs : List RegName} {ime : Bool} {mode : Mode} {s t : State} (hr : KeepsRegs regs s t)
    (hk : KeepsMachine s t) (hi : t.ime = ime) (hm : t.mode = mode) (hc : t.cycles = s.cycles) (cost : Nat) :
    ChangesControl regs ime mode cost s (t.charge cost) :=
  ⟨fun r h => (State.charge_regVal t cost r).trans (hr r h), hk.trans (KeepsMachine.charge t cost), hi, hm, by simp [hc]⟩

theorem KeepsRegs.weaken {l m : List RegName} {s t : State} (h : KeepsRegs l s t) (hlm : ∀ r, r ∈ l → r ∈ m) : KeepsRegs m s t :=
  fun r hr => h r (fun hl => hr (hlm r hl))

theorem ChangesControl.weaken {l m : List RegName} {ime : Bool} {mode : Mode} {cost : Nat} {s t : State}
    (h : ChangesControl l ime mode cost s t) (hlm : ∀ r, r ∈ l → r ∈ m) : ChangesControl m ime mode cost s t :=
  ⟨h.1.weaken hlm, h.2⟩

/-! ### The operations that store nothing -/

theorem loadReg_spec (dst : Reg8) (v : Byte) (cost : Nat) (s : State) :
    ∃ t, loadReg dst v cost s = .next t ∧ t.getR8 dst = v ∧ Changes [regNameOf dst] cost s t :=
  ⟨_, rfl, by simp, ChangesControl.charge (fun r h => State.setR8_regVal s dst v (by simpa using h)) (KeepsMachine.setR8 s dst v)
    (by simp) (by simp) (by simp) cost⟩

theorem loadStep_spec (k : Word) (s : State) :
    ∃ t, loadStep k s = .next t ∧ t.getA = s.memRead s.hl ∧ t.hl = s.hl + k ∧ Changes [.a, .h, .l] 8 s t := by
  refine ⟨_, rfl, ?_, ?_, ChangesControl.charge (fun r h => ?_)
    ((KeepsMachine.setR8 s .a (s.memRead s.hl)).trans (KeepsMachine.setR16 _ .hl _)) (by simp) (by simp) (by simp) 8⟩
  · rw [State.charge_getA, State.setR16_getA]
    exact State.setR8_getR8_same s .a _
  · rfl
  · rw [State.setR16_regVal _ _ _ (by simp [pairNames] at h ⊢; exact h.2), State.setR8_regVal _ _ _ (by simp [regNameOf] at h ⊢; exact h.1)]

theorem loadPair_spec (p : Reg16) (w : Word) (cost : Nat) (s : State) :
    ∃ t, loadPair p w cost s = .next t ∧ t.getR16 p = w ∧ Changes (pairNames p) cost s t :=
  ⟨_, rfl, by cases p <;> rfl, ChangesControl.charge (fun r h => State.setR16_regVal s p w h) (KeepsMachine.setR16 s p w)
    (by simp) (by simp) (by simp) cost⟩

theorem addPair_spec (p : Reg16) (k : Word) (s : State) :
    ∃ t, addPair p k s = .next t ∧ t.getR16 p = s.getR16 p + k ∧ Changes (pairNames p) 8 s t :=
  loadPair_spec p (s.getR16 p + k) 8 s

/-- Writing a pair and the flags. -/
theorem setR16_setFlags_spec (p : Reg16) (w : Word) (f : Flags) (cost : Nat) (s : State) :
    let t := ((s.setR16 p w).setFlags f).charge cost
    t.getR16 p = w ∧ t.flags = f ∧ Changes (.f :: pairNames p) cost s t := by
  refine ⟨by cases p <;> rfl, by simp, ChangesControl.charge (fun r h => ?_)
    ((KeepsMachine.setR16 s p w).trans (KeepsMachine.setFlags _ f)) (by simp) (by simp) (by simp) cost⟩
  simp at h
  rw [State.setFlags_regVal _ _ h.1, State.setR16_regVal _ _ _ h.2]

theorem spOffset_spec (p : Reg16) (n : Byte) (cost : Nat) (s : State) :
    ∃ t, spOffset p n cost s = .next t ∧ t.getR16 p = (spOffsetEval s.sp n).1 ∧ t.flags = (spOffsetEval s.sp n).2 ∧
      Changes (.f :: pairNames p) cost s t :=
  ⟨_, rfl, setR16_setFlags_spec p _ _ cost s⟩

theorem addHl_spec (p : Reg16) (s : State) :
    ∃ t, addHl p s = .next t ∧ t.hl = (add16Eval s.hl (s.getR16 p) s.flags).1 ∧
      t.flags = (add16Eval s.hl (s.getR16 p) s.flags).2 ∧ Changes [.f, .h, .l] 8 s t :=
  ⟨_, rfl, setR16_setFlags_spec .hl _ _ 8 s⟩

/-- Writing flags alone. -/
theorem setFlags_spec (f : Flags) (cost : Nat) (s : State) :
    ((s.setFlags f).charge cost).flags = f ∧ Changes [.f] cost s ((s.setFlags f).charge cost) :=
  ⟨by simp, ChangesControl.charge (fun r h => State.setFlags_regVal s f (by simpa using h)) (KeepsMachine.setFlags s f) rfl rfl rfl cost⟩

/-- Writing a byte register and the flags. -/
theorem setR8_setFlags_spec (dst : Reg8) (v : Byte) (f : Flags) (cost : Nat) (s : State) :
    let t := ((s.setR8 dst v).setFlags f).charge cost
    t.getR8 dst = v ∧ t.flags = f ∧ Changes [regNameOf dst, .f] cost s t := by
  refine ⟨by simp, by simp, ChangesControl.charge (fun r h => ?_) ((KeepsMachine.setR8 s dst v).trans (KeepsMachine.setFlags _ f))
    (by simp) (by simp) (by simp) cost⟩
  simp at h
  rw [State.setFlags_regVal _ _ h.2, State.setR8_regVal _ _ _ h.1]

theorem aluAcc_cp_spec (v : Byte) (cost : Nat) (s : State) :
    ∃ t, aluAcc .cp v cost s = .next t ∧ t.flags = (aluEval .cp s.getA v s.flags.c).flags ∧ Changes [.f] cost s t :=
  ⟨_, rfl, setFlags_spec _ cost s⟩

theorem aluAcc_spec {op : AluOp} (h : op ≠ .cp) (v : Byte) (cost : Nat) (s : State) :
    ∃ t, aluAcc op v cost s = .next t ∧ t.getA = (aluEval op s.getA v s.flags.c).value ∧
      t.flags = (aluEval op s.getA v s.flags.c).flags ∧ Changes [.a, .f] cost s t := by
  cases op <;> first | exact absurd rfl h | exact ⟨_, rfl, setR8_setFlags_spec .a _ _ cost s⟩

theorem incOperand_reg_spec (r : Reg8) (s : State) :
    ∃ t, incOperand (.reg r) s = .next t ∧ t.getR8 r = (incEval (s.getR8 r) s.flags).value ∧
      t.flags = (incEval (s.getR8 r) s.flags).flags ∧ Changes [regNameOf r, .f] 4 s t :=
  ⟨_, rfl, setR8_setFlags_spec r _ _ 4 s⟩

theorem decOperand_reg_spec (r : Reg8) (s : State) :
    ∃ t, decOperand (.reg r) s = .next t ∧ t.getR8 r = (decEval (s.getR8 r) s.flags).value ∧
      t.flags = (decEval (s.getR8 r) s.flags).flags ∧ Changes [regNameOf r, .f] 4 s t :=
  ⟨_, rfl, setR8_setFlags_spec r _ _ 4 s⟩

theorem adjustAcc_spec (r : AluResult) (s : State) :
    ∃ t, adjustAcc r s = .next t ∧ t.getA = r.value ∧ t.flags = r.flags ∧ Changes [.a, .f] 4 s t :=
  ⟨_, rfl, setR8_setFlags_spec .a _ _ 4 s⟩

theorem rotAcc_spec (op : RotOp) (s : State) :
    ∃ t, rotAcc op s = .next t ∧ t.getA = (rotAccEval op s.getA s.flags.c).value ∧
      t.flags = (rotAccEval op s.getA s.flags.c).flags ∧ Changes [.a, .f] 4 s t :=
  ⟨_, rfl, setR8_setFlags_spec .a _ _ 4 s⟩

theorem rotOperand_reg_spec (op : RotOp) (r : Reg8) (s : State) :
    ∃ t, rotOperand op (.reg r) s = .next t ∧ t.getR8 r = (rotEval op (s.getR8 r) s.flags.c).value ∧
      t.flags = (rotEval op (s.getR8 r) s.flags.c).flags ∧ Changes [regNameOf r, .f] 8 s t :=
  ⟨_, rfl, setR8_setFlags_spec r _ _ 8 s⟩

theorem bitOperand_spec (b : Fin 8) (o : Operand8) (s : State) :
    ∃ t, bitOperand b o s = .next t ∧ t.flags = bitTestFlags b (s.readOperand o) s.flags ∧ Changes [.f] (operandCost o 8 12) s t :=
  ⟨_, rfl, setFlags_spec _ _ s⟩

theorem resOperand_reg_spec (b : Fin 8) (r : Reg8) (s : State) :
    ∃ t, resOperand b (.reg r) s = .next t ∧ t.getR8 r = s.getR8 r &&& ~~~(oneBit b.val) ∧ Changes [regNameOf r] 8 s t :=
  loadReg_spec r _ 8 s

theorem setOperand_reg_spec (b : Fin 8) (r : Reg8) (s : State) :
    ∃ t, setOperand b (.reg r) s = .next t ∧ t.getR8 r = s.getR8 r ||| oneBit b.val ∧ Changes [regNameOf r] 8 s t :=
  loadReg_spec r _ 8 s

theorem jumpTo_spec (target : Word) (cost : Nat) (s : State) :
    ∃ t, jumpTo target cost s = .next t ∧ t.pc = target ∧ Changes [.pc] cost s t := by
  refine ⟨_, rfl, rfl, ChangesControl.charge (s := s) (t := { s with pc := target }) (fun r h => ?_)
    (KeepsMachine.intro rfl rfl rfl rfl rfl rfl rfl rfl) rfl rfl rfl cost⟩
  cases r <;> first | rfl | exact absurd (by simp) h

theorem charge_spec (cost : Nat) (s : State) : Changes [] cost s (s.charge cost) :=
  ChangesControl.charge (fun _ _ => rfl) (KeepsMachine.intro rfl rfl rfl rfl rfl rfl rfl rfl) rfl rfl rfl cost

theorem jumpIf_spec (cc : Cond) (target : Word) (base taken : Nat) (s : State) :
    ∃ t, jumpIf cc target base taken s = .next t ∧ t.pc = (if s.cond cc = true then target else s.pc) ∧
      Changes [.pc] (if s.cond cc = true then taken else base) s t := by
  by_cases h : s.cond cc = true
  · simpa [jumpIf, h] using jumpTo_spec target taken s
  · refine ⟨s.charge base, by simp [jumpIf, h], by simp [h], ?_⟩
    rw [if_neg h]
    exact (charge_spec base s).weaken (by simp)

theorem popPair_spec (q : Stk16) (s : State) :
    ∃ t, popPair q s = .next t ∧ t.getStk16 q = (if q = .af then s.memRead16 s.sp &&& 0xFFF0 else s.memRead16 s.sp) ∧
      t.sp = s.sp + 2 ∧ t.flags = (if q = .af then Flags.ofByte (s.memRead s.sp) else s.flags) ∧
      Changes (.sp :: stkNames q) 12 s t := by
  refine ⟨_, rfl, ?_, ?_, ?_, ChangesControl.charge (s := s) (t := s.pop16.2.setStk16 q s.pop16.1) (fun r h => ?_)
    ((KeepsMachine.intro (t := s.pop16.2) rfl rfl rfl rfl rfl rfl rfl rfl).trans (KeepsMachine.setStk16 _ q _))
    (by simp [State.pop16]) (by simp [State.pop16]) (by simp [State.pop16]) 12⟩
  · have : ((s.pop16.2.setStk16 q s.pop16.1).charge 12).getStk16 q = (s.pop16.2.setStk16 q s.pop16.1).getStk16 q := by cases q <;> rfl
    rw [this, State.setStk16_getStk16_same]
    rfl
  · simp [State.pop16]
  · cases q
    · rfl
    · rfl
    · rfl
    · have hf : (s.pop16.2.setStk16 .af s.pop16.1).getF = s.memRead s.sp &&& 0xF0 := by
        show lowByte (joinBytes (s.memRead s.sp) (s.memRead (s.sp + 1)) &&& 0xFFF0) &&& 0xF0 = _
        rw [← joinBytes_and, lowByte_joinBytes, BitVec.and_assoc]
        rfl
      have hb : ∀ v : Byte, Flags.ofByte (v &&& 0xF0) = Flags.ofByte v := by decide
      show Flags.ofByte ((s.pop16.2.setStk16 .af s.pop16.1).getF) = _
      rw [hf, hb]
      rfl
  · simp at h
    rw [State.setStk16_regVal _ _ _ h.2]
    cases r <;> first | rfl | exact absurd rfl h.1

theorem returnCharged_spec (cost : Nat) (s : State) :
    ∃ t, returnCharged cost s = .next t ∧ t.pc = s.memRead16 s.sp ∧ t.sp = s.sp + 2 ∧ Changes [.sp, .pc] cost s t := by
  refine ⟨_, rfl, rfl, rfl, ChangesControl.charge (s := s) (t := { s with sp := s.sp + 2, pc := s.memRead16 s.sp }) (fun r h => ?_)
    (KeepsMachine.intro rfl rfl rfl rfl rfl rfl rfl rfl) rfl rfl rfl cost⟩
  cases r <;> first | rfl | exact absurd (by simp) h

theorem returnFromInterrupt_spec (s : State) :
    (s.returnFromInterrupt.charge 16).pc = s.memRead16 s.sp ∧ (s.returnFromInterrupt.charge 16).sp = s.sp + 2 ∧
      ChangesControl [.sp, .pc] true s.mode 16 s (s.returnFromInterrupt.charge 16) := by
  refine ⟨rfl, rfl, ChangesControl.charge (s := s) (t := s.returnFromInterrupt) (fun r h => ?_)
    (KeepsMachine.intro rfl rfl rfl rfl rfl rfl rfl rfl) rfl rfl rfl 16⟩
  cases r <;> first | rfl | exact absurd (by simp) h

/-! ### The operations that store -/

/-- What the byte writes of a list leave. -/
theorem State.writeAll_keeps {α : Type} (f : State → α) (h : ∀ s a v, f (s.memWriteNoCopy a v) = f s) (s : State)
    (l : List (Word × Byte)) : f (s.writeAll l) = f s := by
  unfold State.writeAll
  induction l generalizing s with
  | nil => rfl
  | cons c rest ih => rw [List.foldl_cons, ih, State.memWrite_keeps f h]

theorem State.writeAll_memRead_other (s : State) (l : List (Word × Byte)) {x : Word} (h : ∀ c ∈ l, ¬Touched c.1 x) :
    (s.writeAll l).memRead x = s.memRead x := by
  unfold State.writeAll
  induction l generalizing s with
  | nil => rfl
  | cons c rest ih =>
    rw [List.foldl_cons, ih _ (fun d hd => h d (by simp [hd])), State.memRead_memWrite_other s c.2 (h c (by simp))]

theorem State.writeAll_io_other (s : State) (l : List (Word × Byte)) {r : HwReg} (h : ∀ c ∈ l, c.1 ≠ r.addr) :
    (s.writeAll l).io.get r = s.io.get r := by
  unfold State.writeAll
  induction l generalizing s with
  | nil => rfl
  | cons c rest ih =>
    rw [List.foldl_cons, ih _ (fun d hd => h d (by simp [hd])), State.memWrite_io_other s c.2 (h c (by simp))]

theorem State.writeAll_divAcc (s : State) (l : List (Word × Byte)) (h : ∀ c ∈ l, c.1 ≠ HwReg.div.addr) :
    (s.writeAll l).divAcc = s.divAcc := by
  unfold State.writeAll
  induction l generalizing s with
  | nil => rfl
  | cons c rest ih =>
    rw [List.foldl_cons, ih _ (fun d hd => h d (by simp [hd])), State.memWrite_divAcc s c.2 (h c (by simp))]

theorem State.writeAll_bootEnabled (s : State) (l : List (Word × Byte)) (h : ∀ c ∈ l, c.1 ≠ HwReg.boot.addr) :
    (s.writeAll l).bootEnabled = s.bootEnabled := by
  unfold State.writeAll
  induction l generalizing s with
  | nil => rfl
  | cons c rest ih =>
    rw [List.foldl_cons, ih _ (fun d hd => h d (by simp [hd])), State.memWrite_bootEnabled s c.2 (h c (by simp))]

/-- A state that has the memory side of `s` after the stores, and the rest of `s` but for the named registers and the cost. -/
theorem Stores.intro {l : List (Word × Byte)} {regs : List RegName} {cost : Nat} {s t : State}
    (hmem : t.mem = (s.writeAll l).mem) (hio : t.io = (s.writeAll l).io) (hb : t.bootEnabled = (s.writeAll l).bootEnabled)
    (hd : t.divAcc = (s.writeAll l).divAcc) (ht : t.timaAcc = s.timaAcc) (hs : t.saved = s.saved)
    (hp : t.params = s.params) (hbt : t.buttons = s.buttons) (hr : KeepsRegs regs s t) (hi : t.ime = s.ime) (hm : t.mode = s.mode)
    (hc : t.cycles = s.cycles + cost) : Stores l regs cost s t := by
  have k2 := State.writeAll_keeps State.params (fun s a v => State.memWriteNoCopy_params s a v) s l
  have k3 := State.writeAll_keeps State.buttons (fun s a v => State.memWriteNoCopy_buttons s a v) s l
  have hread : ∀ x : Word, t.memRead x = (s.writeAll l).memRead x :=
    State.memRead_congr hb hmem hio (hp.trans k2.symm) (hbt.trans k3.symm)
  refine ⟨⟨hread, hmem, hio, hb, hd⟩, ⟨?_, ?_, ?_, ?_, ht, hs, hp, hbt⟩, hr, hi, hm, hc⟩
  · exact fun x h => (hread x).trans (State.writeAll_memRead_other s l h)
  · exact fun r h => by rw [hio, State.writeAll_io_other s l h]
  · exact fun h => hd.trans (State.writeAll_divAcc s l h)
  · exact fun h => hb.trans (State.writeAll_bootEnabled s l h)

theorem memWrite_regVal (s : State) (a : Word) (v : Byte) (r : RegName) : (s.memWrite a v).regVal r = s.regVal r :=
  regVal_congr (by simp) (by simp) (by simp) (by simp) (by simp) (by simp) r

theorem storeByte_spec (a : Word) (v : Byte) (cost : Nat) (s : State) :
    ∃ t, storeByte a v cost s = .next t ∧ Stores [(a, v)] [] cost s t :=
  ⟨_, rfl, Stores.intro rfl rfl rfl rfl (by simp) (by simp) (by simp) (by simp)
    (fun r _ => by rw [State.charge_regVal, memWrite_regVal]) (by simp) (by simp) (by simp)⟩

theorem storeStep_spec (k : Word) (s : State) :
    ∃ t, storeStep k s = .next t ∧ t.hl = s.hl + k ∧ Stores [(s.hl, s.getA)] [.h, .l] 8 s t := by
  refine ⟨_, rfl, ?_, Stores.intro ?_ ?_ ?_ ?_ (by simp) (by simp) (by simp) (by simp) (fun r h => ?_) (by simp) (by simp)
    (by simp)⟩
  · simp [State.setR16]
  · simp [State.writeAll]
  · simp [State.writeAll]
  · simp [State.writeAll]
  · simp [State.writeAll]
  · rw [State.charge_regVal, State.setR16_regVal _ _ _ (by simpa [pairNames] using h), memWrite_regVal]

theorem writeSp_spec (a : Word) (s : State) :
    Stores [(a, lowByte s.sp), (a + 1, highByte s.sp)] [] 20 s ((s.memWrite16 a s.sp).charge 20) :=
  Stores.intro rfl rfl rfl rfl (by simp) (by simp) (by simp) (by simp)
    (fun r _ => by rw [State.charge_regVal, State.memWrite16, memWrite_regVal, memWrite_regVal]) (by simp) (by simp) (by simp)

/-- Writing the byte at `HL` and the flags. -/
theorem storeFlags_spec (v : Byte) (f : Flags) (cost : Nat) (s : State) :
    (((s.memWrite s.hl v).setFlags f).charge cost).flags = f ∧
      Stores [(s.hl, v)] [.f] cost s (((s.memWrite s.hl v).setFlags f).charge cost) := by
  refine ⟨by simp, Stores.intro rfl rfl rfl rfl (by simp) (by simp) (by simp) (by simp) (fun r h => ?_) (by simp) (by simp)
    (by simp)⟩
  rw [State.charge_regVal, State.setFlags_regVal _ _ (by simpa using h), memWrite_regVal]

theorem incOperand_mem_spec (s : State) :
    ∃ t, incOperand .hlInd s = .next t ∧ t.flags = (incEval (s.memRead s.hl) s.flags).flags ∧
      Stores [(s.hl, (incEval (s.memRead s.hl) s.flags).value)] [.f] 12 s t :=
  ⟨_, rfl, storeFlags_spec _ _ 12 s⟩

theorem decOperand_mem_spec (s : State) :
    ∃ t, decOperand .hlInd s = .next t ∧ t.flags = (decEval (s.memRead s.hl) s.flags).flags ∧
      Stores [(s.hl, (decEval (s.memRead s.hl) s.flags).value)] [.f] 12 s t :=
  ⟨_, rfl, storeFlags_spec _ _ 12 s⟩

theorem rotOperand_mem_spec (op : RotOp) (s : State) :
    ∃ t, rotOperand op .hlInd s = .next t ∧ t.flags = (rotEval op (s.memRead s.hl) s.flags.c).flags ∧
      Stores [(s.hl, (rotEval op (s.memRead s.hl) s.flags.c).value)] [.f] 16 s t :=
  ⟨_, rfl, storeFlags_spec _ _ 16 s⟩

theorem resOperand_mem_spec (b : Fin 8) (s : State) :
    ∃ t, resOperand b .hlInd s = .next t ∧ Stores [(s.hl, s.memRead s.hl &&& ~~~(oneBit b.val))] [] 16 s t :=
  storeByte_spec s.hl _ 16 s

theorem setOperand_mem_spec (b : Fin 8) (s : State) :
    ∃ t, setOperand b .hlInd s = .next t ∧ Stores [(s.hl, s.memRead s.hl ||| oneBit b.val)] [] 16 s t :=
  storeByte_spec s.hl _ 16 s

/-- A push writes two bytes at the new `SP`, with everything else as the writes leave it. -/
theorem push16_writeAll (s : State) (w : Word) :
    s.push16 w = ({ s with sp := s.sp - 2 } : State).writeAll [(s.sp - 2, lowByte w), (s.sp - 2 + 1, highByte w)] := rfl

/-- A change `g` of a part of the state that the memory controller neither reads nor writes. -/
structure OutsideMemory (g : State → State) : Prop where
  bootEnabled : ∀ s, (g s).bootEnabled = s.bootEnabled
  params : ∀ s, (g s).params = s.params
  mem : ∀ s, (g s).mem = s.mem
  memRead : ∀ s a, (g s).memRead a = s.memRead a
  setMem : ∀ s m, ({ g s with mem := m } : State) = g { s with mem := m }
  writeRegister : ∀ s r v, (g s).writeRegister r v = g (s.writeRegister r v)

theorem OutsideMemory.memWriteNoCopy {g : State → State} (h : OutsideMemory g) (s : State) (a : Word) (v : Byte) :
    (g s).memWriteNoCopy a v = g (s.memWriteNoCopy a v) := by
  have hd : decodeAddr (g s).bootEnabled a = decodeAddr s.bootEnabled a := by rw [h.bootEnabled]
  have hm : ({ g s with mem := (g s).mem.set a.toNat v } : State) = g { s with mem := s.mem.set a.toNat v } := by
    rw [h.mem]
    exact h.setMem s _
  unfold State.memWriteNoCopy
  rw [hd]
  cases decodeAddr s.bootEnabled a with
  | bootOverlay => rfl
  | rom => rfl
  | unmapped => rfl
  | ram => exact hm
  | oam => exact hm
  | hram => exact hm
  | register r => exact h.writeRegister s r v

/-- A byte write does not depend on what lies outside the memory controller, and leaves it. -/
theorem OutsideMemory.memWrite {g : State → State} (h : OutsideMemory g) (s : State) (a : Word) (v : Byte) :
    (g s).memWrite a v = g (s.memWrite a v) := by
  unfold State.memWrite
  rw [h.params]
  split
  · rw [h.memWriteNoCopy]
    generalize s.memWriteNoCopy a v = u
    unfold State.dmaCopy
    generalize List.range 256 = l
    induction l generalizing u with
    | nil => rfl
    | cons i rest ih => rw [List.foldl_cons, List.foldl_cons, h.memRead, h.memWriteNoCopy, ih]
  · exact h.memWriteNoCopy s a v

theorem OutsideMemory.setSp (p : Word) : OutsideMemory (fun s => { s with sp := p }) where
  bootEnabled _ := rfl
  params _ := rfl
  mem _ := rfl
  memRead _ _ := rfl
  setMem _ _ := rfl
  writeRegister _ r _ := by cases r <;> rfl

theorem OutsideMemory.setSaved (x : Option Snapshot) : OutsideMemory (fun s => { s with saved := x }) where
  bootEnabled _ := rfl
  params _ := rfl
  mem _ := rfl
  memRead _ _ := rfl
  setMem _ _ := rfl
  writeRegister _ r _ := by cases r <;> rfl

theorem State.memWrite_sp_comm (s : State) (p a : Word) (v : Byte) :
    ({ s with sp := p } : State).memWrite a v = { s.memWrite a v with sp := p } :=
  (OutsideMemory.setSp p).memWrite s a v

theorem push16_eq (s : State) (w : Word) :
    s.push16 w = { s.writeAll [(s.sp - 2, lowByte w), (s.sp - 2 + 1, highByte w)] with sp := s.sp - 2 } := by
  rw [push16_writeAll]
  simp only [State.writeAll, List.foldl_cons, List.foldl_nil, State.memWrite_sp_comm]

theorem push16_regVal (s : State) (w : Word) {r : RegName} (h : r ≠ .sp) : (s.push16 w).regVal r = s.regVal r := by
  cases r <;> first | exact absurd rfl h | simp [State.regVal]

/-- A push, a change of `PC` and a charge. -/
theorem push16_spec (s : State) (w pc' : Word) (cost : Nat) :
    Stores [(s.sp - 2, lowByte w), (s.sp - 2 + 1, highByte w)] [.sp, .pc] cost s ({ s.push16 w with pc := pc' }.charge cost) := by
  refine Stores.intro ?_ ?_ ?_ ?_ (by simp) (by simp) (by simp) (by simp) (fun r h => ?_) (by simp) (by simp) (by simp)
  · rw [push16_eq]; rfl
  · rw [push16_eq]; rfl
  · rw [push16_eq]; rfl
  · rw [push16_eq]; rfl
  · have h1 : r ≠ .sp := by rintro rfl; simp at h
    have h2 : r ≠ .pc := by rintro rfl; simp at h
    have h3 : ({ s.push16 w with pc := pc' } : State).regVal r = (s.push16 w).regVal r := by
      cases r <;> first | rfl | exact absurd rfl h2
    rw [State.charge_regVal, h3, push16_regVal s w h1]

theorem pushPair_spec (q : Stk16) (s : State) :
    ∃ t, pushPair q s = .next t ∧ t.sp = s.sp - 2 ∧
      Stores [(s.sp - 2, lowByte (s.getStk16 q)), (s.sp - 2 + 1, highByte (s.getStk16 q))] [.sp] 16 s t := by
  refine ⟨_, rfl, by simp, Stores.intro ?_ ?_ ?_ ?_ (by simp) (by simp) (by simp) (by simp) (fun r h => ?_) (by simp) (by simp)
    (by simp)⟩
  · rw [push16_eq]; rfl
  · rw [push16_eq]; rfl
  · rw [push16_eq]; rfl
  · rw [push16_eq]; rfl
  · rw [State.charge_regVal, push16_regVal s _ (by simpa using h)]

theorem callTo_spec (target : Word) (cost : Nat) (s : State) :
    ∃ t, callTo target cost s = .next t ∧ t.pc = target ∧ t.sp = s.sp - 2 ∧
      Stores [(s.sp - 2, lowByte s.pc), (s.sp - 2 + 1, highByte s.pc)] [.sp, .pc] cost s t :=
  ⟨_, rfl, rfl, by simp, push16_spec s s.pc target cost⟩

end Sys2Proof.Machine
end

