-- ==== Sys2Proof/Laws/Step.lean ====
section
/-! SUPPORT. What a step can do, said once; what the timer advance keeps; how the timers' division agrees with the spec's loops. -/
namespace Sys2Proof.Machine

/-! ### The step -/

/-- Once for all: a step that answers a next state either takes an interrupt or runs the fetched instruction. -/
theorem step_cases {s t : State} (h : step s = .next t) :
    s.mode = .running ∧
      ((∃ i, s.pendingInterrupt = some i ∧ t = s.endStep ((s.interruptEntry i).charge s.params.intEntryCycles)) ∨
       (s.pendingInterrupt = none ∧ ∃ u, exec s.fetchInstr.1 s.fetchInstr.2 = .next u ∧ t = s.endStep u)) := by
  unfold step State.beginStep at h
  cases hm : s.mode with
  | halted => simp [hm] at h
  | stopped => simp [hm] at h
  | running =>
    refine ⟨rfl, ?_⟩
    cases hp : s.pendingInterrupt with
    | some i =>
      simp only [hm, hp, State.finishStep] at h
      exact .inl ⟨i, rfl, (Host.Outcome.next.inj h).symm⟩
    | none =>
      simp only [hm, hp] at h
      cases he : exec s.fetchInstr.1 s.fetchInstr.2 with
      | next u =>
        simp only [he, State.finishStep] at h
        exact .inr ⟨rfl, u, rfl, (Host.Outcome.next.inj h).symm⟩
      | fault f => simp [he, State.finishStep] at h
      | refused q => simp [he, State.finishStep] at h

/-- No interrupt is taken exactly when `IME` is clear or no source is both pending and enabled. -/
theorem State.pendingInterrupt_eq_none_iff (s : State) :
    s.pendingInterrupt = none ↔ s.ime = false ∨ getIsr (s.io.intEnable &&& s.io.intFlag) = none := by
  unfold State.pendingInterrupt
  cases s.ime <;> simp

/-- A running core with no interrupt to take runs the fetched instruction. -/
theorem step_execute {s : State} (hm : s.mode = .running) (hp : s.pendingInterrupt = none) :
    step s = s.finishStep (exec s.fetchInstr.1 s.fetchInstr.2) := by
  simp [step, State.beginStep, hm, hp]

/-- A running core with an interrupt to take takes it. -/
theorem step_interrupt {s : State} (hm : s.mode = .running) {i : IntSource} (hp : s.pendingInterrupt = some i) :
    step s = .next (s.endStep ((s.interruptEntry i).charge s.params.intEntryCycles)) := by
  simp [step, State.beginStep, hm, hp, State.finishStep]

/-- The fetch changes `PC` alone. -/
theorem fetchInstr_state (s : State) :
    s.fetchInstr.2 = { s with pc := s.pc + BitVec.ofNat 16 (instrLength (s.memRead s.pc)) } := rfl

/-! ### The timer advance -/

theorem HwRegs.tickTima_other (io : HwRegs) {r : HwReg} (h1 : r ≠ .tima) (h2 : r ≠ .intFlag) : io.tickTima.get r = io.get r := by
  unfold HwRegs.tickTima
  split
  · rw [HwRegs.get_set_other _ h2, HwRegs.get_set_other _ h1]
  · rw [HwRegs.get_set_other _ h1]

/-- The ticks of the timer counter write `TIMA` and `IF` alone. -/
theorem HwRegs.tickTimaN_other (io : HwRegs) (n : Nat) {r : HwReg} (h1 : r ≠ .tima) (h2 : r ≠ .intFlag) :
    (io.tickTimaN n).get r = io.get r := by
  induction n with
  | zero => rfl
  | succ n ih => rw [HwRegs.tickTimaN, HwRegs.tickTima_other _ h1 h2, ih]

/-- The first tick may be taken out at the front. -/
theorem HwRegs.tickTimaN_succ (io : HwRegs) (n : Nat) : io.tickTimaN (n + 1) = io.tickTima.tickTimaN n := by
  induction n with
  | zero => rfl
  | succ n ih => rw [HwRegs.tickTimaN, ih, HwRegs.tickTimaN]

/-- Once for all: the timer advance writes the prescalers, `DIV`, `TIMA` and `IF`. -/
theorem State.timerAdvance_eq (s : State) (c : Nat) :
    ∃ d k io, s.timerAdvance c = { s with divAcc := d, timaAcc := k, io := io } ∧ d < 256 ∧ (s.timaAcc < 1024 → k < 1024) ∧
      ∀ r : HwReg, r ≠ .div → r ≠ .tima → r ≠ .intFlag → io.get r = s.io.get r := by
  have hd : (s.divAcc + c) % divPeriod < 256 := Nat.mod_lt _ (by decide)
  have ho : ∀ r : HwReg, r ≠ .div → (s.advanceDiv c).io.get r = s.io.get r := fun r h => HwRegs.get_set_other s.io h _
  unfold State.timerAdvance State.advanceTima
  split
  · refine ⟨_, _, _, rfl, hd, fun _ => ?_, fun r h1 h2 h3 => ?_⟩
    · have : 0 < timerPeriod (s.advanceDiv c).io.tac ∧ timerPeriod (s.advanceDiv c).io.tac ≤ 1024 := by
        unfold timerPeriod
        split <;> decide
      exact Nat.lt_of_lt_of_le (Nat.mod_lt _ this.1) this.2
    · exact (HwRegs.tickTimaN_other _ _ h2 h3).trans (ho r h1)
  · exact ⟨_, _, _, rfl, hd, id, fun r h1 _ _ => ho r h1⟩

/-- Once for all: what ends a step keeps all but the prescalers, three registers and the button state. -/
theorem State.endStep_eq (s u : State) :
    ∃ d k io, s.endStep u = { u with divAcc := d, timaAcc := k, io := io, buttons := s.buttons + 1 } ∧ d < 256 ∧
      (u.timaAcc < 1024 → k < 1024) ∧
      ∀ r : HwReg, r ≠ .div → r ≠ .tima → r ≠ .intFlag → io.get r = u.io.get r := by
  obtain ⟨d, k, io, he, h⟩ := State.timerAdvance_eq u (u.cycles - s.cycles)
  exact ⟨d, k, io, by unfold State.endStep; rw [he], h⟩

/-- The spec's loop of R324 is a division. -/
theorem divLoop_eq (fuel acc : Nat) (div : Byte) (h : acc ≤ fuel) :
    divLoop fuel acc div = (acc % 256, div + BitVec.ofNat 8 (acc / 256)) := by
  induction fuel generalizing acc div with
  | zero =>
    have : acc = 0 := by omega
    subst this
    simp [divLoop]
  | succ fuel ih =>
    unfold divLoop
    by_cases ha : acc ≥ 256
    · rw [if_pos ha, ih _ _ (by omega)]
      refine Prod.ext (by simp; omega) ?_
      apply BitVec.eq_of_toNat_eq
      simp only [BitVec.toNat_add, BitVec.toNat_ofNat]
      show ((div.toNat + 1 % 256) % 256 + (acc - 256) / 256 % 256) % 256 = (div.toNat + acc / 256 % 256) % 256
      omega
    · rw [if_neg ha, Nat.mod_eq_of_lt (by omega), Nat.div_eq_of_lt (by omega)]
      simp

/-- The spec's loop of R325 is a division and as many ticks. -/
theorem timaLoop_eq (fuel period acc : Nat) (io : HwRegs) (hp : 0 < period) (h : acc ≤ fuel) :
    timaLoop fuel period acc io = (acc % period, io.tickTimaN (acc / period)) := by
  induction fuel generalizing acc io with
  | zero =>
    have : acc = 0 := by omega
    subst this
    simp [timaLoop, HwRegs.tickTimaN]
  | succ fuel ih =>
    unfold timaLoop
    by_cases ha : acc ≥ period
    · have hdiv : acc / period = (acc - period) / period + 1 := by
        rw [← Nat.div_eq_sub_div hp ha]
      rw [if_pos ha, ih _ _ (by omega), hdiv, HwRegs.tickTimaN_succ, Nat.mod_eq_sub_mod ha]
      rfl
    · rw [if_neg ha, Nat.mod_eq_of_lt (by omega), Nat.div_eq_of_lt (by omega)]
      rfl

/-- `TIMER_PERIOD` as the table of R326. -/
theorem timerPeriod_eq (tac : Byte) : timerPeriod tac = [1024, 16, 64, 256].getD (tac.toNat % 4) 0 := by
  revert tac
  decide

end Sys2Proof.Machine
end

