-- ==== Sys2Proof/Laws/Invariant.lean ====
section
/-! SUPPORT. The named operations keep the machine's invariant. -/
namespace Sys2Proof.Machine

/-- The invariant reads six fields. -/
theorem State.Inv.of_eq {s t : State} (h : s.Inv) (hm : t.mem = s.mem) (hb : t.params = s.params) (hs : t.saved = s.saved)
    (hd : t.divAcc = s.divAcc) (ht : t.timaAcc = s.timaAcc) (hf : t.af &&& 0x000F = 0) : t.Inv := by
  obtain ⟨h1, h2, h3, ⟨_, h6⟩, h7, h8⟩ := h
  exact ⟨hm ▸ h1, hb ▸ h2, fun c hc => h3 c (hm ▸ hc), ⟨hf, hs ▸ h6⟩, hd ▸ h7, ht ▸ h8⟩

theorem joinBytes_lowNibble (lo hi : Byte) : joinBytes lo hi &&& 0x000F = (lo &&& 0x0F).setWidth 16 := by
  apply BitVec.eq_of_toNat_eq
  simp only [BitVec.toNat_setWidth, BitVec.toNat_and, joinBytes_toNat]
  have := lo.isLt
  show hi.toNat * 256 + lo.toNat &&& 2 ^ 4 - 1 = (lo.toNat &&& 2 ^ 4 - 1) % 2 ^ 16
  rw [Nat.and_two_pow_sub_one_eq_mod, Nat.and_two_pow_sub_one_eq_mod]
  omega

/-- The low nibble of a word is that of its low byte. -/
theorem lowNibble_of_word (w : Word) : w &&& 0x000F = (lowByte w &&& 0x0F).setWidth 16 := by
  rw [← joinBytes_lowNibble (lowByte w) (highByte w), joinBytes_halves]

theorem State.setR8_inv (s : State) (dst : Reg8) (v : Byte) (h : s.Inv) : (s.setR8 dst v).Inv := by
  refine h.of_eq (by simp) (by simp) (by simp) (by simp) (by simp) ?_
  have hf := h.2.2.2.1.1
  cases dst
  case a =>
    rw [lowNibble_of_word] at hf ⊢
    simpa [State.setR8] using hf
  all_goals exact hf

theorem State.setF_inv (s : State) (v : Byte) (h : s.Inv) : (s.setF v).Inv := by
  refine h.of_eq (by simp) (by simp) (by simp) (by simp) (by simp) ?_
  rw [State.setF, joinBytes_lowNibble, BitVec.and_assoc]
  simp

theorem State.setFlags_inv (s : State) (f : Flags) (h : s.Inv) : (s.setFlags f).Inv := State.setF_inv s f.pack h

theorem State.setR16_inv (s : State) (p : Reg16) (w : Word) (h : s.Inv) : (s.setR16 p w).Inv :=
  h.of_eq (by simp) (by simp) (by simp) (by simp) (by simp) (by simpa using h.2.2.2.1.1)

theorem State.setStk16_inv (s : State) (q : Stk16) (w : Word) (h : s.Inv) : (s.setStk16 q w).Inv := by
  refine h.of_eq (by simp) (by simp) (by simp) (by simp) (by simp) ?_
  cases q
  case af =>
    show w &&& 0xFFF0 &&& 0x000F = 0
    rw [BitVec.and_assoc]
    simp
  all_goals exact h.2.2.2.1.1

theorem State.charge_inv (s : State) (n : Nat) (h : s.Inv) : (s.charge n).Inv := h

theorem State.memWrite16_inv (s : State) (a w : Word) (h : s.Inv) : (s.memWrite16 a w).Inv :=
  State.memWrite_inv _ _ _ (State.memWrite_inv _ _ _ h)

theorem State.push16_inv (s : State) (w : Word) (h : s.Inv) : (s.push16 w).Inv := State.memWrite16_inv { s with sp := s.sp - 2 } _ _ h

theorem State.writeOperand_inv (s : State) (o : Operand8) (v : Byte) (h : s.Inv) : (s.writeOperand o v).Inv := by
  cases o with
  | reg r => exact State.setR8_inv s r v h
  | hlInd => exact State.memWrite_inv s s.hl v h

theorem State.putAcc_inv (s : State) (r : AluResult) (h : s.Inv) : (s.putAcc r).Inv := State.setFlags_inv _ _ (State.setR8_inv _ _ _ h)

theorem State.getAF_lowNibble (s : State) : s.getAF &&& 0x000F = 0 := by
  rw [State.getAF, joinBytes_lowNibble, State.getF, BitVec.and_assoc]
  simp

theorem State.interruptEntry_inv (s : State) (i : IntSource) (h : s.Inv) : (s.interruptEntry i).Inv := by
  obtain ⟨h1, h2, h3, ⟨h5, _⟩, h7⟩ := h
  refine State.push16_inv _ _ ⟨h1, h2, h3, ⟨h5, fun r hr => ?_⟩, h7⟩
  obtain rfl := Option.mem_some.mp hr
  exact State.getAF_lowNibble _

theorem State.endStep_inv (s u : State) (h : u.Inv) : (s.endStep u).Inv := by
  obtain ⟨d, k, io, he, hd, hk, _⟩ := State.endStep_eq s u
  rw [he]
  exact ⟨h.1, h.2.1, h.2.2.1, h.2.2.2.1, hd, hk h.2.2.2.2.2⟩

end Sys2Proof.Machine
end

