-- ==== Sys2Proof/Laws/PerInstr.lean ====
section
/-! SUPPORT. The family `Encoding`: what is said of each instruction's bytes, one lemma per constructor. -/
namespace Sys2Proof.Laws.Encoding

/-- The bytes of a well-formed instruction are as many as its first byte says, and with any bytes after them they decode to it. -/
def Statement (i : Instr) : Prop :=
  i.wellFormed = true → ∀ rest : List Byte,
    decodeBytes ((encode i ++ rest).getD 0 0) ((encode i ++ rest).getD 1 0) ((encode i ++ rest).getD 2 0) = i ∧
      (encode i).length = instrLength ((encode i ++ rest).getD 0 0)

theorem ldBN (n : Byte) : Statement (.ldBN n) :=
  fun _ _ => (⟨rfl, rfl⟩ : decodeBytes 0x06 _ _ = Instr.ldBN n ∧ _ = instrLength 0x06)

theorem ldCN (n : Byte) : Statement (.ldCN n) :=
  fun _ _ => (⟨rfl, rfl⟩ : decodeBytes 0x0E _ _ = Instr.ldCN n ∧ _ = instrLength 0x0E)

theorem ldDN (n : Byte) : Statement (.ldDN n) :=
  fun _ _ => (⟨rfl, rfl⟩ : decodeBytes 0x16 _ _ = Instr.ldDN n ∧ _ = instrLength 0x16)

theorem ldEN (n : Byte) : Statement (.ldEN n) :=
  fun _ _ => (⟨rfl, rfl⟩ : decodeBytes 0x1E _ _ = Instr.ldEN n ∧ _ = instrLength 0x1E)

theorem ldHN (n : Byte) : Statement (.ldHN n) :=
  fun _ _ => (⟨rfl, rfl⟩ : decodeBytes 0x26 _ _ = Instr.ldHN n ∧ _ = instrLength 0x26)

theorem ldLN (n : Byte) : Statement (.ldLN n) :=
  fun _ _ => (⟨rfl, rfl⟩ : decodeBytes 0x2E _ _ = Instr.ldLN n ∧ _ = instrLength 0x2E)

theorem ldIndHlN (n : Byte) : Statement (.ldIndHlN n) :=
  fun _ _ => (⟨rfl, rfl⟩ : decodeBytes 0x36 _ _ = Instr.ldIndHlN n ∧ _ = instrLength 0x36)

theorem ldAN (n : Byte) : Statement (.ldAN n) :=
  fun _ _ => (⟨rfl, rfl⟩ : decodeBytes 0x3E _ _ = Instr.ldAN n ∧ _ = instrLength 0x3E)

theorem ldhIndNA (n : Byte) : Statement (.ldhIndNA n) :=
  fun _ _ => (⟨rfl, rfl⟩ : decodeBytes 0xE0 _ _ = Instr.ldhIndNA n ∧ _ = instrLength 0xE0)

theorem ldIndNnA (nn : Word) : Statement (.ldIndNnA nn) :=
  fun _ _ => (⟨congrArg Instr.ldIndNnA (Machine.joinBytes_halves nn), rfl⟩ : decodeBytes 0xEA _ _ = Instr.ldIndNnA nn ∧ _ = instrLength 0xEA)

theorem ldhAIndN (n : Byte) : Statement (.ldhAIndN n) :=
  fun _ _ => (⟨rfl, rfl⟩ : decodeBytes 0xF0 _ _ = Instr.ldhAIndN n ∧ _ = instrLength 0xF0)

theorem ldAIndNn (nn : Word) : Statement (.ldAIndNn nn) :=
  fun _ _ => (⟨congrArg Instr.ldAIndNn (Machine.joinBytes_halves nn), rfl⟩ : decodeBytes 0xFA _ _ = Instr.ldAIndNn nn ∧ _ = instrLength 0xFA)

theorem ldBcNn (nn : Word) : Statement (.ldBcNn nn) :=
  fun _ _ => (⟨congrArg Instr.ldBcNn (Machine.joinBytes_halves nn), rfl⟩ : decodeBytes 0x01 _ _ = Instr.ldBcNn nn ∧ _ = instrLength 0x01)

theorem ldIndNnSp (nn : Word) : Statement (.ldIndNnSp nn) :=
  fun _ _ => (⟨congrArg Instr.ldIndNnSp (Machine.joinBytes_halves nn), rfl⟩ : decodeBytes 0x08 _ _ = Instr.ldIndNnSp nn ∧ _ = instrLength 0x08)

theorem ldDeNn (nn : Word) : Statement (.ldDeNn nn) :=
  fun _ _ => (⟨congrArg Instr.ldDeNn (Machine.joinBytes_halves nn), rfl⟩ : decodeBytes 0x11 _ _ = Instr.ldDeNn nn ∧ _ = instrLength 0x11)

theorem ldHlNn (nn : Word) : Statement (.ldHlNn nn) :=
  fun _ _ => (⟨congrArg Instr.ldHlNn (Machine.joinBytes_halves nn), rfl⟩ : decodeBytes 0x21 _ _ = Instr.ldHlNn nn ∧ _ = instrLength 0x21)

theorem ldSpNn (nn : Word) : Statement (.ldSpNn nn) :=
  fun _ _ => (⟨congrArg Instr.ldSpNn (Machine.joinBytes_halves nn), rfl⟩ : decodeBytes 0x31 _ _ = Instr.ldSpNn nn ∧ _ = instrLength 0x31)

theorem ldHlSpN (n : Byte) : Statement (.ldHlSpN n) :=
  fun _ _ => (⟨rfl, rfl⟩ : decodeBytes 0xF8 _ _ = Instr.ldHlSpN n ∧ _ = instrLength 0xF8)

theorem addAN (n : Byte) : Statement (.addAN n) :=
  fun _ _ => (⟨rfl, rfl⟩ : decodeBytes 0xC6 _ _ = Instr.addAN n ∧ _ = instrLength 0xC6)

theorem adcAN (n : Byte) : Statement (.adcAN n) :=
  fun _ _ => (⟨rfl, rfl⟩ : decodeBytes 0xCE _ _ = Instr.adcAN n ∧ _ = instrLength 0xCE)

theorem subAN (n : Byte) : Statement (.subAN n) :=
  fun _ _ => (⟨rfl, rfl⟩ : decodeBytes 0xD6 _ _ = Instr.subAN n ∧ _ = instrLength 0xD6)

theorem sbcAN (n : Byte) : Statement (.sbcAN n) :=
  fun _ _ => (⟨rfl, rfl⟩ : decodeBytes 0xDE _ _ = Instr.sbcAN n ∧ _ = instrLength 0xDE)

theorem andAN (n : Byte) : Statement (.andAN n) :=
  fun _ _ => (⟨rfl, rfl⟩ : decodeBytes 0xE6 _ _ = Instr.andAN n ∧ _ = instrLength 0xE6)

theorem xorAN (n : Byte) : Statement (.xorAN n) :=
  fun _ _ => (⟨rfl, rfl⟩ : decodeBytes 0xEE _ _ = Instr.xorAN n ∧ _ = instrLength 0xEE)

theorem orAN (n : Byte) : Statement (.orAN n) :=
  fun _ _ => (⟨rfl, rfl⟩ : decodeBytes 0xF6 _ _ = Instr.orAN n ∧ _ = instrLength 0xF6)

theorem cpAN (n : Byte) : Statement (.cpAN n) :=
  fun _ _ => (⟨rfl, rfl⟩ : decodeBytes 0xFE _ _ = Instr.cpAN n ∧ _ = instrLength 0xFE)

theorem addSpN (n : Byte) : Statement (.addSpN n) :=
  fun _ _ => (⟨rfl, rfl⟩ : decodeBytes 0xE8 _ _ = Instr.addSpN n ∧ _ = instrLength 0xE8)

theorem jrN (n : Byte) : Statement (.jrN n) :=
  fun _ _ => (⟨rfl, rfl⟩ : decodeBytes 0x18 _ _ = Instr.jrN n ∧ _ = instrLength 0x18)

theorem jrNzN (n : Byte) : Statement (.jrNzN n) :=
  fun _ _ => (⟨rfl, rfl⟩ : decodeBytes 0x20 _ _ = Instr.jrNzN n ∧ _ = instrLength 0x20)

theorem jrZN (n : Byte) : Statement (.jrZN n) :=
  fun _ _ => (⟨rfl, rfl⟩ : decodeBytes 0x28 _ _ = Instr.jrZN n ∧ _ = instrLength 0x28)

theorem jrNcN (n : Byte) : Statement (.jrNcN n) :=
  fun _ _ => (⟨rfl, rfl⟩ : decodeBytes 0x30 _ _ = Instr.jrNcN n ∧ _ = instrLength 0x30)

theorem jrCN (n : Byte) : Statement (.jrCN n) :=
  fun _ _ => (⟨rfl, rfl⟩ : decodeBytes 0x38 _ _ = Instr.jrCN n ∧ _ = instrLength 0x38)

theorem jpNzNn (nn : Word) : Statement (.jpNzNn nn) :=
  fun _ _ => (⟨congrArg Instr.jpNzNn (Machine.joinBytes_halves nn), rfl⟩ : decodeBytes 0xC2 _ _ = Instr.jpNzNn nn ∧ _ = instrLength 0xC2)

theorem jpNn (nn : Word) : Statement (.jpNn nn) :=
  fun _ _ => (⟨congrArg Instr.jpNn (Machine.joinBytes_halves nn), rfl⟩ : decodeBytes 0xC3 _ _ = Instr.jpNn nn ∧ _ = instrLength 0xC3)

theorem callNzNn (nn : Word) : Statement (.callNzNn nn) :=
  fun _ _ => (⟨congrArg Instr.callNzNn (Machine.joinBytes_halves nn), rfl⟩ : decodeBytes 0xC4 _ _ = Instr.callNzNn nn ∧ _ = instrLength 0xC4)

theorem jpZNn (nn : Word) : Statement (.jpZNn nn) :=
  fun _ _ => (⟨congrArg Instr.jpZNn (Machine.joinBytes_halves nn), rfl⟩ : decodeBytes 0xCA _ _ = Instr.jpZNn nn ∧ _ = instrLength 0xCA)

theorem callZNn (nn : Word) : Statement (.callZNn nn) :=
  fun _ _ => (⟨congrArg Instr.callZNn (Machine.joinBytes_halves nn), rfl⟩ : decodeBytes 0xCC _ _ = Instr.callZNn nn ∧ _ = instrLength 0xCC)

theorem callNn (nn : Word) : Statement (.callNn nn) :=
  fun _ _ => (⟨congrArg Instr.callNn (Machine.joinBytes_halves nn), rfl⟩ : decodeBytes 0xCD _ _ = Instr.callNn nn ∧ _ = instrLength 0xCD)

theorem jpNcNn (nn : Word) : Statement (.jpNcNn nn) :=
  fun _ _ => (⟨congrArg Instr.jpNcNn (Machine.joinBytes_halves nn), rfl⟩ : decodeBytes 0xD2 _ _ = Instr.jpNcNn nn ∧ _ = instrLength 0xD2)

theorem callNcNn (nn : Word) : Statement (.callNcNn nn) :=
  fun _ _ => (⟨congrArg Instr.callNcNn (Machine.joinBytes_halves nn), rfl⟩ : decodeBytes 0xD4 _ _ = Instr.callNcNn nn ∧ _ = instrLength 0xD4)

theorem jpCNn (nn : Word) : Statement (.jpCNn nn) :=
  fun _ _ => (⟨congrArg Instr.jpCNn (Machine.joinBytes_halves nn), rfl⟩ : decodeBytes 0xDA _ _ = Instr.jpCNn nn ∧ _ = instrLength 0xDA)

theorem callCNn (nn : Word) : Statement (.callCNn nn) :=
  fun _ _ => (⟨congrArg Instr.callCNn (Machine.joinBytes_halves nn), rfl⟩ : decodeBytes 0xDC _ _ = Instr.callCNn nn ∧ _ = instrLength 0xDC)

theorem stop (n : Byte) : Statement (.stop n) :=
  fun _ _ => (⟨rfl, rfl⟩ : decodeBytes 0x10 _ _ = Instr.stop n ∧ _ = instrLength 0x10)

theorem prefixCb (xop : Byte) : Statement (.prefixCb xop) := fun h => nomatch h

theorem illegal (opcode : Byte) : Statement (.illegal opcode) := by
  intro h rest
  have hm : opcode ∈ removedOpcodes := List.contains_iff_mem.mp h
  simp only [removedOpcodes, List.mem_cons, List.not_mem_nil, or_false] at hm
  show decodeBytes opcode _ _ = Instr.illegal opcode ∧ 1 = instrLength opcode
  generalize (encode (Instr.illegal opcode) ++ rest).getD 1 0 = b1
  generalize (encode (Instr.illegal opcode) ++ rest).getD 2 0 = b2
  rcases hm with rfl | rfl | rfl | rfl | rfl | rfl | rfl | rfl | rfl | rfl | rfl <;> exact ⟨rfl, rfl⟩

theorem ldIndBcA : Statement .ldIndBcA :=
  fun _ _ => (⟨rfl, rfl⟩ : decodeBytes 0x02 _ _ = Instr.ldIndBcA ∧ _ = instrLength 0x02)

theorem ldAIndBc : Statement .ldAIndBc :=
  fun _ _ => (⟨rfl, rfl⟩ : decodeBytes 0x0A _ _ = Instr.ldAIndBc ∧ _ = instrLength 0x0A)

theorem ldIndDeA : Statement .ldIndDeA :=
  fun _ _ => (⟨rfl, rfl⟩ : decodeBytes 0x12 _ _ = Instr.ldIndDeA ∧ _ = instrLength 0x12)

theorem ldAIndDe : Statement .ldAIndDe :=
  fun _ _ => (⟨rfl, rfl⟩ : decodeBytes 0x1A _ _ = Instr.ldAIndDe ∧ _ = instrLength 0x1A)

theorem ldIndHlIncA : Statement .ldIndHlIncA :=
  fun _ _ => (⟨rfl, rfl⟩ : decodeBytes 0x22 _ _ = Instr.ldIndHlIncA ∧ _ = instrLength 0x22)

theorem ldAIndHlInc : Statement .ldAIndHlInc :=
  fun _ _ => (⟨rfl, rfl⟩ : decodeBytes 0x2A _ _ = Instr.ldAIndHlInc ∧ _ = instrLength 0x2A)

theorem ldIndHlDecA : Statement .ldIndHlDecA :=
  fun _ _ => (⟨rfl, rfl⟩ : decodeBytes 0x32 _ _ = Instr.ldIndHlDecA ∧ _ = instrLength 0x32)

theorem ldAIndHlDec : Statement .ldAIndHlDec :=
  fun _ _ => (⟨rfl, rfl⟩ : decodeBytes 0x3A _ _ = Instr.ldAIndHlDec ∧ _ = instrLength 0x3A)

theorem ldBB : Statement .ldBB :=
  fun _ _ => (⟨rfl, rfl⟩ : decodeBytes 0x40 _ _ = Instr.ldBB ∧ _ = instrLength 0x40)

theorem ldBC : Statement .ldBC :=
  fun _ _ => (⟨rfl, rfl⟩ : decodeBytes 0x41 _ _ = Instr.ldBC ∧ _ = instrLength 0x41)

theorem ldBD : Statement .ldBD :=
  fun _ _ => (⟨rfl, rfl⟩ : decodeBytes 0x42 _ _ = Instr.ldBD ∧ _ = instrLength 0x42)

theorem ldBE : Statement .ldBE :=
  fun _ _ => (⟨rfl, rfl⟩ : decodeBytes 0x43 _ _ = Instr.ldBE ∧ _ = instrLength 0x43)

theorem ldBH : Statement .ldBH :=
  fun _ _ => (⟨rfl, rfl⟩ : decodeBytes 0x44 _ _ = Instr.ldBH ∧ _ = instrLength 0x44)

theorem ldBL : Statement .ldBL :=
  fun _ _ => (⟨rfl, rfl⟩ : decodeBytes 0x45 _ _ = Instr.ldBL ∧ _ = instrLength 0x45)

theorem ldBIndHl : Statement .ldBIndHl :=
  fun _ _ => (⟨rfl, rfl⟩ : decodeBytes 0x46 _ _ = Instr.ldBIndHl ∧ _ = instrLength 0x46)

theorem ldBA : Statement .ldBA :=
  fun _ _ => (⟨rfl, rfl⟩ : decodeBytes 0x47 _ _ = Instr.ldBA ∧ _ = instrLength 0x47)

theorem ldCB : Statement .ldCB :=
  fun _ _ => (⟨rfl, rfl⟩ : decodeBytes 0x48 _ _ = Instr.ldCB ∧ _ = instrLength 0x48)

theorem ldCC : Statement .ldCC :=
  fun _ _ => (⟨rfl, rfl⟩ : decodeBytes 0x49 _ _ = Instr.ldCC ∧ _ = instrLength 0x49)

theorem ldCD : Statement .ldCD :=
  fun _ _ => (⟨rfl, rfl⟩ : decodeBytes 0x4A _ _ = Instr.ldCD ∧ _ = instrLength 0x4A)

theorem ldCE : Statement .ldCE :=
  fun _ _ => (⟨rfl, rfl⟩ : decodeBytes 0x4B _ _ = Instr.ldCE ∧ _ = instrLength 0x4B)

theorem ldCH : Statement .ldCH :=
  fun _ _ => (⟨rfl, rfl⟩ : decodeBytes 0x4C _ _ = Instr.ldCH ∧ _ = instrLength 0x4C)

theorem ldCL : Statement .ldCL :=
  fun _ _ => (⟨rfl, rfl⟩ : decodeBytes 0x4D _ _ = Instr.ldCL ∧ _ = instrLength 0x4D)

theorem ldCIndHl : Statement .ldCIndHl :=
  fun _ _ => (⟨rfl, rfl⟩ : decodeBytes 0x4E _ _ = Instr.ldCIndHl ∧ _ = instrLength 0x4E)

theorem ldCA : Statement .ldCA :=
  fun _ _ => (⟨rfl, rfl⟩ : decodeBytes 0x4F _ _ = Instr.ldCA ∧ _ = instrLength 0x4F)

theorem ldDB : Statement .ldDB :=
  fun _ _ => (⟨rfl, rfl⟩ : decodeBytes 0x50 _ _ = Instr.ldDB ∧ _ = instrLength 0x50)

theorem ldDC : Statement .ldDC :=
  fun _ _ => (⟨rfl, rfl⟩ : decodeBytes 0x51 _ _ = Instr.ldDC ∧ _ = instrLength 0x51)

theorem ldDD : Statement .ldDD :=
  fun _ _ => (⟨rfl, rfl⟩ : decodeBytes 0x52 _ _ = Instr.ldDD ∧ _ = instrLength 0x52)

theorem ldDE : Statement .ldDE :=
  fun _ _ => (⟨rfl, rfl⟩ : decodeBytes 0x53 _ _ = Instr.ldDE ∧ _ = instrLength 0x53)

theorem ldDH : Statement .ldDH :=
  fun _ _ => (⟨rfl, rfl⟩ : decodeBytes 0x54 _ _ = Instr.ldDH ∧ _ = instrLength 0x54)

theorem ldDL : Statement .ldDL :=
  fun _ _ => (⟨rfl, rfl⟩ : decodeBytes 0x55 _ _ = Instr.ldDL ∧ _ = instrLength 0x55)

theorem ldDIndHl : Statement .ldDIndHl :=
  fun _ _ => (⟨rfl, rfl⟩ : decodeBytes 0x56 _ _ = Instr.ldDIndHl ∧ _ = instrLength 0x56)

theorem ldDA : Statement .ldDA :=
  fun _ _ => (⟨rfl, rfl⟩ : decodeBytes 0x57 _ _ = Instr.ldDA ∧ _ = instrLength 0x57)

theorem ldEB : Statement .ldEB :=
  fun _ _ => (⟨rfl, rfl⟩ : decodeBytes 0x58 _ _ = Instr.ldEB ∧ _ = instrLength 0x58)

theorem ldEC : Statement .ldEC :=
  fun _ _ => (⟨rfl, rfl⟩ : decodeBytes 0x59 _ _ = Instr.ldEC ∧ _ = instrLength 0x59)

theorem ldED : Statement .ldED :=
  fun _ _ => (⟨rfl, rfl⟩ : decodeBytes 0x5A _ _ = Instr.ldED ∧ _ = instrLength 0x5A)

theorem ldEE : Statement .ldEE :=
  fun _ _ => (⟨rfl, rfl⟩ : decodeBytes 0x5B _ _ = Instr.ldEE ∧ _ = instrLength 0x5B)

theorem ldEH : Statement .ldEH :=
  fun _ _ => (⟨rfl, rfl⟩ : decodeBytes 0x5C _ _ = Instr.ldEH ∧ _ = instrLength 0x5C)

theorem ldEL : Statement .ldEL :=
  fun _ _ => (⟨rfl, rfl⟩ : decodeBytes 0x5D _ _ = Instr.ldEL ∧ _ = instrLength 0x5D)

theorem ldEIndHl : Statement .ldEIndHl :=
  fun _ _ => (⟨rfl, rfl⟩ : decodeBytes 0x5E _ _ = Instr.ldEIndHl ∧ _ = instrLength 0x5E)

theorem ldEA : Statement .ldEA :=
  fun _ _ => (⟨rfl, rfl⟩ : decodeBytes 0x5F _ _ = Instr.ldEA ∧ _ = instrLength 0x5F)

theorem ldHB : Statement .ldHB :=
  fun _ _ => (⟨rfl, rfl⟩ : decodeBytes 0x60 _ _ = Instr.ldHB ∧ _ = instrLength 0x60)

theorem ldHC : Statement .ldHC :=
  fun _ _ => (⟨rfl, rfl⟩ : decodeBytes 0x61 _ _ = Instr.ldHC ∧ _ = instrLength 0x61)

theorem ldHD : Statement .ldHD :=
  fun _ _ => (⟨rfl, rfl⟩ : decodeBytes 0x62 _ _ = Instr.ldHD ∧ _ = instrLength 0x62)

theorem ldHE : Statement .ldHE :=
  fun _ _ => (⟨rfl, rfl⟩ : decodeBytes 0x63 _ _ = Instr.ldHE ∧ _ = instrLength 0x63)

theorem ldHH : Statement .ldHH :=
  fun _ _ => (⟨rfl, rfl⟩ : decodeBytes 0x64 _ _ = Instr.ldHH ∧ _ = instrLength 0x64)

theorem ldHL : Statement .ldHL :=
  fun _ _ => (⟨rfl, rfl⟩ : decodeBytes 0x65 _ _ = Instr.ldHL ∧ _ = instrLength 0x65)

theorem ldHIndHl : Statement .ldHIndHl :=
  fun _ _ => (⟨rfl, rfl⟩ : decodeBytes 0x66 _ _ = Instr.ldHIndHl ∧ _ = instrLength 0x66)

theorem ldHA : Statement .ldHA :=
  fun _ _ => (⟨rfl, rfl⟩ : decodeBytes 0x67 _ _ = Instr.ldHA ∧ _ = instrLength 0x67)

theorem ldLB : Statement .ldLB :=
  fun _ _ => (⟨rfl, rfl⟩ : decodeBytes 0x68 _ _ = Instr.ldLB ∧ _ = instrLength 0x68)

theorem ldLC : Statement .ldLC :=
  fun _ _ => (⟨rfl, rfl⟩ : decodeBytes 0x69 _ _ = Instr.ldLC ∧ _ = instrLength 0x69)

theorem ldLD : Statement .ldLD :=
  fun _ _ => (⟨rfl, rfl⟩ : decodeBytes 0x6A _ _ = Instr.ldLD ∧ _ = instrLength 0x6A)

theorem ldLE : Statement .ldLE :=
  fun _ _ => (⟨rfl, rfl⟩ : decodeBytes 0x6B _ _ = Instr.ldLE ∧ _ = instrLength 0x6B)

theorem ldLH : Statement .ldLH :=
  fun _ _ => (⟨rfl, rfl⟩ : decodeBytes 0x6C _ _ = Instr.ldLH ∧ _ = instrLength 0x6C)

theorem ldLL : Statement .ldLL :=
  fun _ _ => (⟨rfl, rfl⟩ : decodeBytes 0x6D _ _ = Instr.ldLL ∧ _ = instrLength 0x6D)

theorem ldLIndHl : Statement .ldLIndHl :=
  fun _ _ => (⟨rfl, rfl⟩ : decodeBytes 0x6E _ _ = Instr.ldLIndHl ∧ _ = instrLength 0x6E)

theorem ldLA : Statement .ldLA :=
  fun _ _ => (⟨rfl, rfl⟩ : decodeBytes 0x6F _ _ = Instr.ldLA ∧ _ = instrLength 0x6F)

theorem ldIndHlB : Statement .ldIndHlB :=
  fun _ _ => (⟨rfl, rfl⟩ : decodeBytes 0x70 _ _ = Instr.ldIndHlB ∧ _ = instrLength 0x70)

theorem ldIndHlC : Statement .ldIndHlC :=
  fun _ _ => (⟨rfl, rfl⟩ : decodeBytes 0x71 _ _ = Instr.ldIndHlC ∧ _ = instrLength 0x71)

theorem ldIndHlD : Statement .ldIndHlD :=
  fun _ _ => (⟨rfl, rfl⟩ : decodeBytes 0x72 _ _ = Instr.ldIndHlD ∧ _ = instrLength 0x72)

theorem ldIndHlE : Statement .ldIndHlE :=
  fun _ _ => (⟨rfl, rfl⟩ : decodeBytes 0x73 _ _ = Instr.ldIndHlE ∧ _ = instrLength 0x73)

theorem ldIndHlH : Statement .ldIndHlH :=
  fun _ _ => (⟨rfl, rfl⟩ : decodeBytes 0x74 _ _ = Instr.ldIndHlH ∧ _ = instrLength 0x74)

theorem ldIndHlL : Statement .ldIndHlL :=
  fun _ _ => (⟨rfl, rfl⟩ : decodeBytes 0x75 _ _ = Instr.ldIndHlL ∧ _ = instrLength 0x75)

theorem ldIndHlA : Statement .ldIndHlA :=
  fun _ _ => (⟨rfl, rfl⟩ : decodeBytes 0x77 _ _ = Instr.ldIndHlA ∧ _ = instrLength 0x77)

theorem ldAB : Statement .ldAB :=
  fun _ _ => (⟨rfl, rfl⟩ : decodeBytes 0x78 _ _ = Instr.ldAB ∧ _ = instrLength 0x78)

theorem ldAC : Statement .ldAC :=
  fun _ _ => (⟨rfl, rfl⟩ : decodeBytes 0x79 _ _ = Instr.ldAC ∧ _ = instrLength 0x79)

theorem ldAD : Statement .ldAD :=
  fun _ _ => (⟨rfl, rfl⟩ : decodeBytes 0x7A _ _ = Instr.ldAD ∧ _ = instrLength 0x7A)

theorem ldAE : Statement .ldAE :=
  fun _ _ => (⟨rfl, rfl⟩ : decodeBytes 0x7B _ _ = Instr.ldAE ∧ _ = instrLength 0x7B)

theorem ldAH : Statement .ldAH :=
  fun _ _ => (⟨rfl, rfl⟩ : decodeBytes 0x7C _ _ = Instr.ldAH ∧ _ = instrLength 0x7C)

theorem ldAL : Statement .ldAL :=
  fun _ _ => (⟨rfl, rfl⟩ : decodeBytes 0x7D _ _ = Instr.ldAL ∧ _ = instrLength 0x7D)

theorem ldAIndHl : Statement .ldAIndHl :=
  fun _ _ => (⟨rfl, rfl⟩ : decodeBytes 0x7E _ _ = Instr.ldAIndHl ∧ _ = instrLength 0x7E)

theorem ldAA : Statement .ldAA :=
  fun _ _ => (⟨rfl, rfl⟩ : decodeBytes 0x7F _ _ = Instr.ldAA ∧ _ = instrLength 0x7F)

theorem ldIndCA : Statement .ldIndCA :=
  fun _ _ => (⟨rfl, rfl⟩ : decodeBytes 0xE2 _ _ = Instr.ldIndCA ∧ _ = instrLength 0xE2)

theorem ldAIndC : Statement .ldAIndC :=
  fun _ _ => (⟨rfl, rfl⟩ : decodeBytes 0xF2 _ _ = Instr.ldAIndC ∧ _ = instrLength 0xF2)

theorem popBc : Statement .popBc :=
  fun _ _ => (⟨rfl, rfl⟩ : decodeBytes 0xC1 _ _ = Instr.popBc ∧ _ = instrLength 0xC1)

theorem pushBc : Statement .pushBc :=
  fun _ _ => (⟨rfl, rfl⟩ : decodeBytes 0xC5 _ _ = Instr.pushBc ∧ _ = instrLength 0xC5)

theorem popDe : Statement .popDe :=
  fun _ _ => (⟨rfl, rfl⟩ : decodeBytes 0xD1 _ _ = Instr.popDe ∧ _ = instrLength 0xD1)

theorem pushDe : Statement .pushDe :=
  fun _ _ => (⟨rfl, rfl⟩ : decodeBytes 0xD5 _ _ = Instr.pushDe ∧ _ = instrLength 0xD5)

theorem popHl : Statement .popHl :=
  fun _ _ => (⟨rfl, rfl⟩ : decodeBytes 0xE1 _ _ = Instr.popHl ∧ _ = instrLength 0xE1)

theorem pushHl : Statement .pushHl :=
  fun _ _ => (⟨rfl, rfl⟩ : decodeBytes 0xE5 _ _ = Instr.pushHl ∧ _ = instrLength 0xE5)

theorem popAf : Statement .popAf :=
  fun _ _ => (⟨rfl, rfl⟩ : decodeBytes 0xF1 _ _ = Instr.popAf ∧ _ = instrLength 0xF1)

theorem pushAf : Statement .pushAf :=
  fun _ _ => (⟨rfl, rfl⟩ : decodeBytes 0xF5 _ _ = Instr.pushAf ∧ _ = instrLength 0xF5)

theorem ldSpHl : Statement .ldSpHl :=
  fun _ _ => (⟨rfl, rfl⟩ : decodeBytes 0xF9 _ _ = Instr.ldSpHl ∧ _ = instrLength 0xF9)

theorem incB : Statement .incB :=
  fun _ _ => (⟨rfl, rfl⟩ : decodeBytes 0x04 _ _ = Instr.incB ∧ _ = instrLength 0x04)

theorem decB : Statement .decB :=
  fun _ _ => (⟨rfl, rfl⟩ : decodeBytes 0x05 _ _ = Instr.decB ∧ _ = instrLength 0x05)

theorem incC : Statement .incC :=
  fun _ _ => (⟨rfl, rfl⟩ : decodeBytes 0x0C _ _ = Instr.incC ∧ _ = instrLength 0x0C)

theorem decC : Statement .decC :=
  fun _ _ => (⟨rfl, rfl⟩ : decodeBytes 0x0D _ _ = Instr.decC ∧ _ = instrLength 0x0D)

theorem incD : Statement .incD :=
  fun _ _ => (⟨rfl, rfl⟩ : decodeBytes 0x14 _ _ = Instr.incD ∧ _ = instrLength 0x14)

theorem decD : Statement .decD :=
  fun _ _ => (⟨rfl, rfl⟩ : decodeBytes 0x15 _ _ = Instr.decD ∧ _ = instrLength 0x15)

theorem incE : Statement .incE :=
  fun _ _ => (⟨rfl, rfl⟩ : decodeBytes 0x1C _ _ = Instr.incE ∧ _ = instrLength 0x1C)

theorem decE : Statement .decE :=
  fun _ _ => (⟨rfl, rfl⟩ : decodeBytes 0x1D _ _ = Instr.decE ∧ _ = instrLength 0x1D)

theorem incH : Statement .incH :=
  fun _ _ => (⟨rfl, rfl⟩ : decodeBytes 0x24 _ _ = Instr.incH ∧ _ = instrLength 0x24)

theorem decH : Statement .decH :=
  fun _ _ => (⟨rfl, rfl⟩ : decodeBytes 0x25 _ _ = Instr.decH ∧ _ = instrLength 0x25)

theorem daa : Statement .daa :=
  fun _ _ => (⟨rfl, rfl⟩ : decodeBytes 0x27 _ _ = Instr.daa ∧ _ = instrLength 0x27)

theorem incL : Statement .incL :=
  fun _ _ => (⟨rfl, rfl⟩ : decodeBytes 0x2C _ _ = Instr.incL ∧ _ = instrLength 0x2C)

theorem decL : Statement .decL :=
  fun _ _ => (⟨rfl, rfl⟩ : decodeBytes 0x2D _ _ = Instr.decL ∧ _ = instrLength 0x2D)

theorem cpl : Statement .cpl :=
  fun _ _ => (⟨rfl, rfl⟩ : decodeBytes 0x2F _ _ = Instr.cpl ∧ _ = instrLength 0x2F)

theorem incIndHl : Statement .incIndHl :=
  fun _ _ => (⟨rfl, rfl⟩ : decodeBytes 0x34 _ _ = Instr.incIndHl ∧ _ = instrLength 0x34)

theorem decIndHl : Statement .decIndHl :=
  fun _ _ => (⟨rfl, rfl⟩ : decodeBytes 0x35 _ _ = Instr.decIndHl ∧ _ = instrLength 0x35)

theorem scf : Statement .scf :=
  fun _ _ => (⟨rfl, rfl⟩ : decodeBytes 0x37 _ _ = Instr.scf ∧ _ = instrLength 0x37)

theorem incA : Statement .incA :=
  fun _ _ => (⟨rfl, rfl⟩ : decodeBytes 0x3C _ _ = Instr.incA ∧ _ = instrLength 0x3C)

theorem decA : Statement .decA :=
  fun _ _ => (⟨rfl, rfl⟩ : decodeBytes 0x3D _ _ = Instr.decA ∧ _ = instrLength 0x3D)

theorem ccf : Statement .ccf :=
  fun _ _ => (⟨rfl, rfl⟩ : decodeBytes 0x3F _ _ = Instr.ccf ∧ _ = instrLength 0x3F)

theorem addAB : Statement .addAB :=
  fun _ _ => (⟨rfl, rfl⟩ : decodeBytes 0x80 _ _ = Instr.addAB ∧ _ = instrLength 0x80)

theorem addAC : Statement .addAC :=
  fun _ _ => (⟨rfl, rfl⟩ : decodeBytes 0x81 _ _ = Instr.addAC ∧ _ = instrLength 0x81)

theorem addAD : Statement .addAD :=
  fun _ _ => (⟨rfl, rfl⟩ : decodeBytes 0x82 _ _ = Instr.addAD ∧ _ = instrLength 0x82)

theorem addAE : Statement .addAE :=
  fun _ _ => (⟨rfl, rfl⟩ : decodeBytes 0x83 _ _ = Instr.addAE ∧ _ = instrLength 0x83)

theorem addAH : Statement .addAH :=
  fun _ _ => (⟨rfl, rfl⟩ : decodeBytes 0x84 _ _ = Instr.addAH ∧ _ = instrLength 0x84)

theorem addAL : Statement .addAL :=
  fun _ _ => (⟨rfl, rfl⟩ : decodeBytes 0x85 _ _ = Instr.addAL ∧ _ = instrLength 0x85)

theorem addAIndHl : Statement .addAIndHl :=
  fun _ _ => (⟨rfl, rfl⟩ : decodeBytes 0x86 _ _ = Instr.addAIndHl ∧ _ = instrLength 0x86)

theorem addAA : Statement .addAA :=
  fun _ _ => (⟨rfl, rfl⟩ : decodeBytes 0x87 _ _ = Instr.addAA ∧ _ = instrLength 0x87)

theorem adcAB : Statement .adcAB :=
  fun _ _ => (⟨rfl, rfl⟩ : decodeBytes 0x88 _ _ = Instr.adcAB ∧ _ = instrLength 0x88)

theorem adcAC : Statement .adcAC :=
  fun _ _ => (⟨rfl, rfl⟩ : decodeBytes 0x89 _ _ = Instr.adcAC ∧ _ = instrLength 0x89)

theorem adcAD : Statement .adcAD :=
  fun _ _ => (⟨rfl, rfl⟩ : decodeBytes 0x8A _ _ = Instr.adcAD ∧ _ = instrLength 0x8A)

theorem adcAE : Statement .adcAE :=
  fun _ _ => (⟨rfl, rfl⟩ : decodeBytes 0x8B _ _ = Instr.adcAE ∧ _ = instrLength 0x8B)

theorem adcAH : Statement .adcAH :=
  fun _ _ => (⟨rfl, rfl⟩ : decodeBytes 0x8C _ _ = Instr.adcAH ∧ _ = instrLength 0x8C)

theorem adcAL : Statement .adcAL :=
  fun _ _ => (⟨rfl, rfl⟩ : decodeBytes 0x8D _ _ = Instr.adcAL ∧ _ = instrLength 0x8D)

theorem adcAIndHl : Statement .adcAIndHl :=
  fun _ _ => (⟨rfl, rfl⟩ : decodeBytes 0x8E _ _ = Instr.adcAIndHl ∧ _ = instrLength 0x8E)

theorem adcAA : Statement .adcAA :=
  fun _ _ => (⟨rfl, rfl⟩ : decodeBytes 0x8F _ _ = Instr.adcAA ∧ _ = instrLength 0x8F)

theorem subAB : Statement .subAB :=
  fun _ _ => (⟨rfl, rfl⟩ : decodeBytes 0x90 _ _ = Instr.subAB ∧ _ = instrLength 0x90)

theorem subAC : Statement .subAC :=
  fun _ _ => (⟨rfl, rfl⟩ : decodeBytes 0x91 _ _ = Instr.subAC ∧ _ = instrLength 0x91)

theorem subAD : Statement .subAD :=
  fun _ _ => (⟨rfl, rfl⟩ : decodeBytes 0x92 _ _ = Instr.subAD ∧ _ = instrLength 0x92)

theorem subAE : Statement .subAE :=
  fun _ _ => (⟨rfl, rfl⟩ : decodeBytes 0x93 _ _ = Instr.subAE ∧ _ = instrLength 0x93)

theorem subAH : Statement .subAH :=
  fun _ _ => (⟨rfl, rfl⟩ : decodeBytes 0x94 _ _ = Instr.subAH ∧ _ = instrLength 0x94)

theorem subAL : Statement .subAL :=
  fun _ _ => (⟨rfl, rfl⟩ : decodeBytes 0x95 _ _ = Instr.subAL ∧ _ = instrLength 0x95)

theorem subAIndHl : Statement .subAIndHl :=
  fun _ _ => (⟨rfl, rfl⟩ : decodeBytes 0x96 _ _ = Instr.subAIndHl ∧ _ = instrLength 0x96)

theorem subAA : Statement .subAA :=
  fun _ _ => (⟨rfl, rfl⟩ : decodeBytes 0x97 _ _ = Instr.subAA ∧ _ = instrLength 0x97)

theorem sbcAB : Statement .sbcAB :=
  fun _ _ => (⟨rfl, rfl⟩ : decodeBytes 0x98 _ _ = Instr.sbcAB ∧ _ = instrLength 0x98)

theorem sbcAC : Statement .sbcAC :=
  fun _ _ => (⟨rfl, rfl⟩ : decodeBytes 0x99 _ _ = Instr.sbcAC ∧ _ = instrLength 0x99)

theorem sbcAD : Statement .sbcAD :=
  fun _ _ => (⟨rfl, rfl⟩ : decodeBytes 0x9A _ _ = Instr.sbcAD ∧ _ = instrLength 0x9A)

theorem sbcAE : Statement .sbcAE :=
  fun _ _ => (⟨rfl, rfl⟩ : decodeBytes 0x9B _ _ = Instr.sbcAE ∧ _ = instrLength 0x9B)

theorem sbcAH : Statement .sbcAH :=
  fun _ _ => (⟨rfl, rfl⟩ : decodeBytes 0x9C _ _ = Instr.sbcAH ∧ _ = instrLength 0x9C)

theorem sbcAL : Statement .sbcAL :=
  fun _ _ => (⟨rfl, rfl⟩ : decodeBytes 0x9D _ _ = Instr.sbcAL ∧ _ = instrLength 0x9D)

theorem sbcAIndHl : Statement .sbcAIndHl :=
  fun _ _ => (⟨rfl, rfl⟩ : decodeBytes 0x9E _ _ = Instr.sbcAIndHl ∧ _ = instrLength 0x9E)

theorem sbcAA : Statement .sbcAA :=
  fun _ _ => (⟨rfl, rfl⟩ : decodeBytes 0x9F _ _ = Instr.sbcAA ∧ _ = instrLength 0x9F)

theorem andAB : Statement .andAB :=
  fun _ _ => (⟨rfl, rfl⟩ : decodeBytes 0xA0 _ _ = Instr.andAB ∧ _ = instrLength 0xA0)

theorem andAC : Statement .andAC :=
  fun _ _ => (⟨rfl, rfl⟩ : decodeBytes 0xA1 _ _ = Instr.andAC ∧ _ = instrLength 0xA1)

theorem andAD : Statement .andAD :=
  fun _ _ => (⟨rfl, rfl⟩ : decodeBytes 0xA2 _ _ = Instr.andAD ∧ _ = instrLength 0xA2)

theorem andAE : Statement .andAE :=
  fun _ _ => (⟨rfl, rfl⟩ : decodeBytes 0xA3 _ _ = Instr.andAE ∧ _ = instrLength 0xA3)

theorem andAH : Statement .andAH :=
  fun _ _ => (⟨rfl, rfl⟩ : decodeBytes 0xA4 _ _ = Instr.andAH ∧ _ = instrLength 0xA4)

theorem andAL : Statement .andAL :=
  fun _ _ => (⟨rfl, rfl⟩ : decodeBytes 0xA5 _ _ = Instr.andAL ∧ _ = instrLength 0xA5)

theorem andAIndHl : Statement .andAIndHl :=
  fun _ _ => (⟨rfl, rfl⟩ : decodeBytes 0xA6 _ _ = Instr.andAIndHl ∧ _ = instrLength 0xA6)

theorem andAA : Statement .andAA :=
  fun _ _ => (⟨rfl, rfl⟩ : decodeBytes 0xA7 _ _ = Instr.andAA ∧ _ = instrLength 0xA7)

theorem xorAB : Statement .xorAB :=
  fun _ _ => (⟨rfl, rfl⟩ : decodeBytes 0xA8 _ _ = Instr.xorAB ∧ _ = instrLength 0xA8)

theorem xorAC : Statement .xorAC :=
  fun _ _ => (⟨rfl, rfl⟩ : decodeBytes 0xA9 _ _ = Instr.xorAC ∧ _ = instrLength 0xA9)

theorem xorAD : Statement .xorAD :=
  fun _ _ => (⟨rfl, rfl⟩ : decodeBytes 0xAA _ _ = Instr.xorAD ∧ _ = instrLength 0xAA)

theorem xorAE : Statement .xorAE :=
  fun _ _ => (⟨rfl, rfl⟩ : decodeBytes 0xAB _ _ = Instr.xorAE ∧ _ = instrLength 0xAB)

theorem xorAH : Statement .xorAH :=
  fun _ _ => (⟨rfl, rfl⟩ : decodeBytes 0xAC _ _ = Instr.xorAH ∧ _ = instrLength 0xAC)

theorem xorAL : Statement .xorAL :=
  fun _ _ => (⟨rfl, rfl⟩ : decodeBytes 0xAD _ _ = Instr.xorAL ∧ _ = instrLength 0xAD)

theorem xorAIndHl : Statement .xorAIndHl :=
  fun _ _ => (⟨rfl, rfl⟩ : decodeBytes 0xAE _ _ = Instr.xorAIndHl ∧ _ = instrLength 0xAE)

theorem xorAA : Statement .xorAA :=
  fun _ _ => (⟨rfl, rfl⟩ : decodeBytes 0xAF _ _ = Instr.xorAA ∧ _ = instrLength 0xAF)

theorem orAB : Statement .orAB :=
  fun _ _ => (⟨rfl, rfl⟩ : decodeBytes 0xB0 _ _ = Instr.orAB ∧ _ = instrLength 0xB0)

theorem orAC : Statement .orAC :=
  fun _ _ => (⟨rfl, rfl⟩ : decodeBytes 0xB1 _ _ = Instr.orAC ∧ _ = instrLength 0xB1)

theorem orAD : Statement .orAD :=
  fun _ _ => (⟨rfl, rfl⟩ : decodeBytes 0xB2 _ _ = Instr.orAD ∧ _ = instrLength 0xB2)

theorem orAE : Statement .orAE :=
  fun _ _ => (⟨rfl, rfl⟩ : decodeBytes 0xB3 _ _ = Instr.orAE ∧ _ = instrLength 0xB3)

theorem orAH : Statement .orAH :=
  fun _ _ => (⟨rfl, rfl⟩ : decodeBytes 0xB4 _ _ = Instr.orAH ∧ _ = instrLength 0xB4)

theorem orAL : Statement .orAL :=
  fun _ _ => (⟨rfl, rfl⟩ : decodeBytes 0xB5 _ _ = Instr.orAL ∧ _ = instrLength 0xB5)

theorem orAIndHl : Statement .orAIndHl :=
  fun _ _ => (⟨rfl, rfl⟩ : decodeBytes 0xB6 _ _ = Instr.orAIndHl ∧ _ = instrLength 0xB6)

theorem orAA : Statement .orAA :=
  fun _ _ => (⟨rfl, rfl⟩ : decodeBytes 0xB7 _ _ = Instr.orAA ∧ _ = instrLength 0xB7)

theorem cpAB : Statement .cpAB :=
  fun _ _ => (⟨rfl, rfl⟩ : decodeBytes 0xB8 _ _ = Instr.cpAB ∧ _ = instrLength 0xB8)

theorem cpAC : Statement .cpAC :=
  fun _ _ => (⟨rfl, rfl⟩ : decodeBytes 0xB9 _ _ = Instr.cpAC ∧ _ = instrLength 0xB9)

theorem cpAD : Statement .cpAD :=
  fun _ _ => (⟨rfl, rfl⟩ : decodeBytes 0xBA _ _ = Instr.cpAD ∧ _ = instrLength 0xBA)

theorem cpAE : Statement .cpAE :=
  fun _ _ => (⟨rfl, rfl⟩ : decodeBytes 0xBB _ _ = Instr.cpAE ∧ _ = instrLength 0xBB)

theorem cpAH : Statement .cpAH :=
  fun _ _ => (⟨rfl, rfl⟩ : decodeBytes 0xBC _ _ = Instr.cpAH ∧ _ = instrLength 0xBC)

theorem cpAL : Statement .cpAL :=
  fun _ _ => (⟨rfl, rfl⟩ : decodeBytes 0xBD _ _ = Instr.cpAL ∧ _ = instrLength 0xBD)

theorem cpAIndHl : Statement .cpAIndHl :=
  fun _ _ => (⟨rfl, rfl⟩ : decodeBytes 0xBE _ _ = Instr.cpAIndHl ∧ _ = instrLength 0xBE)

theorem cpAA : Statement .cpAA :=
  fun _ _ => (⟨rfl, rfl⟩ : decodeBytes 0xBF _ _ = Instr.cpAA ∧ _ = instrLength 0xBF)

theorem incBc : Statement .incBc :=
  fun _ _ => (⟨rfl, rfl⟩ : decodeBytes 0x03 _ _ = Instr.incBc ∧ _ = instrLength 0x03)

theorem addHlBc : Statement .addHlBc :=
  fun _ _ => (⟨rfl, rfl⟩ : decodeBytes 0x09 _ _ = Instr.addHlBc ∧ _ = instrLength 0x09)

theorem decBc : Statement .decBc :=
  fun _ _ => (⟨rfl, rfl⟩ : decodeBytes 0x0B _ _ = Instr.decBc ∧ _ = instrLength 0x0B)

theorem incDe : Statement .incDe :=
  fun _ _ => (⟨rfl, rfl⟩ : decodeBytes 0x13 _ _ = Instr.incDe ∧ _ = instrLength 0x13)

theorem addHlDe : Statement .addHlDe :=
  fun _ _ => (⟨rfl, rfl⟩ : decodeBytes 0x19 _ _ = Instr.addHlDe ∧ _ = instrLength 0x19)

theorem decDe : Statement .decDe :=
  fun _ _ => (⟨rfl, rfl⟩ : decodeBytes 0x1B _ _ = Instr.decDe ∧ _ = instrLength 0x1B)

theorem incHl : Statement .incHl :=
  fun _ _ => (⟨rfl, rfl⟩ : decodeBytes 0x23 _ _ = Instr.incHl ∧ _ = instrLength 0x23)

theorem addHlHl : Statement .addHlHl :=
  fun _ _ => (⟨rfl, rfl⟩ : decodeBytes 0x29 _ _ = Instr.addHlHl ∧ _ = instrLength 0x29)

theorem decHl : Statement .decHl :=
  fun _ _ => (⟨rfl, rfl⟩ : decodeBytes 0x2B _ _ = Instr.decHl ∧ _ = instrLength 0x2B)

theorem incSp : Statement .incSp :=
  fun _ _ => (⟨rfl, rfl⟩ : decodeBytes 0x33 _ _ = Instr.incSp ∧ _ = instrLength 0x33)

theorem addHlSp : Statement .addHlSp :=
  fun _ _ => (⟨rfl, rfl⟩ : decodeBytes 0x39 _ _ = Instr.addHlSp ∧ _ = instrLength 0x39)

theorem decSp : Statement .decSp :=
  fun _ _ => (⟨rfl, rfl⟩ : decodeBytes 0x3B _ _ = Instr.decSp ∧ _ = instrLength 0x3B)

theorem rlca : Statement .rlca :=
  fun _ _ => (⟨rfl, rfl⟩ : decodeBytes 0x07 _ _ = Instr.rlca ∧ _ = instrLength 0x07)

theorem rrca : Statement .rrca :=
  fun _ _ => (⟨rfl, rfl⟩ : decodeBytes 0x0F _ _ = Instr.rrca ∧ _ = instrLength 0x0F)

theorem rla : Statement .rla :=
  fun _ _ => (⟨rfl, rfl⟩ : decodeBytes 0x17 _ _ = Instr.rla ∧ _ = instrLength 0x17)

theorem rra : Statement .rra :=
  fun _ _ => (⟨rfl, rfl⟩ : decodeBytes 0x1F _ _ = Instr.rra ∧ _ = instrLength 0x1F)

theorem rlcB : Statement .rlcB :=
  fun _ _ => (⟨rfl, rfl⟩ : decodeBytes 0xCB 0x00 _ = Instr.rlcB ∧ _ = instrLength 0xCB)

theorem rlcC : Statement .rlcC :=
  fun _ _ => (⟨rfl, rfl⟩ : decodeBytes 0xCB 0x01 _ = Instr.rlcC ∧ _ = instrLength 0xCB)

theorem rlcD : Statement .rlcD :=
  fun _ _ => (⟨rfl, rfl⟩ : decodeBytes 0xCB 0x02 _ = Instr.rlcD ∧ _ = instrLength 0xCB)

theorem rlcE : Statement .rlcE :=
  fun _ _ => (⟨rfl, rfl⟩ : decodeBytes 0xCB 0x03 _ = Instr.rlcE ∧ _ = instrLength 0xCB)

theorem rlcH : Statement .rlcH :=
  fun _ _ => (⟨rfl, rfl⟩ : decodeBytes 0xCB 0x04 _ = Instr.rlcH ∧ _ = instrLength 0xCB)

theorem rlcL : Statement .rlcL :=
  fun _ _ => (⟨rfl, rfl⟩ : decodeBytes 0xCB 0x05 _ = Instr.rlcL ∧ _ = instrLength 0xCB)

theorem rlcIndHl : Statement .rlcIndHl :=
  fun _ _ => (⟨rfl, rfl⟩ : decodeBytes 0xCB 0x06 _ = Instr.rlcIndHl ∧ _ = instrLength 0xCB)

theorem rlcA : Statement .rlcA :=
  fun _ _ => (⟨rfl, rfl⟩ : decodeBytes 0xCB 0x07 _ = Instr.rlcA ∧ _ = instrLength 0xCB)

theorem rrcB : Statement .rrcB :=
  fun _ _ => (⟨rfl, rfl⟩ : decodeBytes 0xCB 0x08 _ = Instr.rrcB ∧ _ = instrLength 0xCB)

theorem rrcC : Statement .rrcC :=
  fun _ _ => (⟨rfl, rfl⟩ : decodeBytes 0xCB 0x09 _ = Instr.rrcC ∧ _ = instrLength 0xCB)

theorem rrcD : Statement .rrcD :=
  fun _ _ => (⟨rfl, rfl⟩ : decodeBytes 0xCB 0x0A _ = Instr.rrcD ∧ _ = instrLength 0xCB)

theorem rrcE : Statement .rrcE :=
  fun _ _ => (⟨rfl, rfl⟩ : decodeBytes 0xCB 0x0B _ = Instr.rrcE ∧ _ = instrLength 0xCB)

theorem rrcH : Statement .rrcH :=
  fun _ _ => (⟨rfl, rfl⟩ : decodeBytes 0xCB 0x0C _ = Instr.rrcH ∧ _ = instrLength 0xCB)

theorem rrcL : Statement .rrcL :=
  fun _ _ => (⟨rfl, rfl⟩ : decodeBytes 0xCB 0x0D _ = Instr.rrcL ∧ _ = instrLength 0xCB)

theorem rrcIndHl : Statement .rrcIndHl :=
  fun _ _ => (⟨rfl, rfl⟩ : decodeBytes 0xCB 0x0E _ = Instr.rrcIndHl ∧ _ = instrLength 0xCB)

theorem rrcA : Statement .rrcA :=
  fun _ _ => (⟨rfl, rfl⟩ : decodeBytes 0xCB 0x0F _ = Instr.rrcA ∧ _ = instrLength 0xCB)

theorem rlB : Statement .rlB :=
  fun _ _ => (⟨rfl, rfl⟩ : decodeBytes 0xCB 0x10 _ = Instr.rlB ∧ _ = instrLength 0xCB)

theorem rlC : Statement .rlC :=
  fun _ _ => (⟨rfl, rfl⟩ : decodeBytes 0xCB 0x11 _ = Instr.rlC ∧ _ = instrLength 0xCB)

theorem rlD : Statement .rlD :=
  fun _ _ => (⟨rfl, rfl⟩ : decodeBytes 0xCB 0x12 _ = Instr.rlD ∧ _ = instrLength 0xCB)

theorem rlE : Statement .rlE :=
  fun _ _ => (⟨rfl, rfl⟩ : decodeBytes 0xCB 0x13 _ = Instr.rlE ∧ _ = instrLength 0xCB)

theorem rlH : Statement .rlH :=
  fun _ _ => (⟨rfl, rfl⟩ : decodeBytes 0xCB 0x14 _ = Instr.rlH ∧ _ = instrLength 0xCB)

theorem rlL : Statement .rlL :=
  fun _ _ => (⟨rfl, rfl⟩ : decodeBytes 0xCB 0x15 _ = Instr.rlL ∧ _ = instrLength 0xCB)

theorem rlIndHl : Statement .rlIndHl :=
  fun _ _ => (⟨rfl, rfl⟩ : decodeBytes 0xCB 0x16 _ = Instr.rlIndHl ∧ _ = instrLength 0xCB)

theorem rlA : Statement .rlA :=
  fun _ _ => (⟨rfl, rfl⟩ : decodeBytes 0xCB 0x17 _ = Instr.rlA ∧ _ = instrLength 0xCB)

theorem rrB : Statement .rrB :=
  fun _ _ => (⟨rfl, rfl⟩ : decodeBytes 0xCB 0x18 _ = Instr.rrB ∧ _ = instrLength 0xCB)

theorem rrC : Statement .rrC :=
  fun _ _ => (⟨rfl, rfl⟩ : decodeBytes 0xCB 0x19 _ = Instr.rrC ∧ _ = instrLength 0xCB)

theorem rrD : Statement .rrD :=
  fun _ _ => (⟨rfl, rfl⟩ : decodeBytes 0xCB 0x1A _ = Instr.rrD ∧ _ = instrLength 0xCB)

theorem rrE : Statement .rrE :=
  fun _ _ => (⟨rfl, rfl⟩ : decodeBytes 0xCB 0x1B _ = Instr.rrE ∧ _ = instrLength 0xCB)

theorem rrH : Statement .rrH :=
  fun _ _ => (⟨rfl, rfl⟩ : decodeBytes 0xCB 0x1C _ = Instr.rrH ∧ _ = instrLength 0xCB)

theorem rrL : Statement .rrL :=
  fun _ _ => (⟨rfl, rfl⟩ : decodeBytes 0xCB 0x1D _ = Instr.rrL ∧ _ = instrLength 0xCB)

theorem rrIndHl : Statement .rrIndHl :=
  fun _ _ => (⟨rfl, rfl⟩ : decodeBytes 0xCB 0x1E _ = Instr.rrIndHl ∧ _ = instrLength 0xCB)

theorem rrA : Statement .rrA :=
  fun _ _ => (⟨rfl, rfl⟩ : decodeBytes 0xCB 0x1F _ = Instr.rrA ∧ _ = instrLength 0xCB)

theorem slaB : Statement .slaB :=
  fun _ _ => (⟨rfl, rfl⟩ : decodeBytes 0xCB 0x20 _ = Instr.slaB ∧ _ = instrLength 0xCB)

theorem slaC : Statement .slaC :=
  fun _ _ => (⟨rfl, rfl⟩ : decodeBytes 0xCB 0x21 _ = Instr.slaC ∧ _ = instrLength 0xCB)

theorem slaD : Statement .slaD :=
  fun _ _ => (⟨rfl, rfl⟩ : decodeBytes 0xCB 0x22 _ = Instr.slaD ∧ _ = instrLength 0xCB)

theorem slaE : Statement .slaE :=
  fun _ _ => (⟨rfl, rfl⟩ : decodeBytes 0xCB 0x23 _ = Instr.slaE ∧ _ = instrLength 0xCB)

theorem slaH : Statement .slaH :=
  fun _ _ => (⟨rfl, rfl⟩ : decodeBytes 0xCB 0x24 _ = Instr.slaH ∧ _ = instrLength 0xCB)

theorem slaL : Statement .slaL :=
  fun _ _ => (⟨rfl, rfl⟩ : decodeBytes 0xCB 0x25 _ = Instr.slaL ∧ _ = instrLength 0xCB)

theorem slaIndHl : Statement .slaIndHl :=
  fun _ _ => (⟨rfl, rfl⟩ : decodeBytes 0xCB 0x26 _ = Instr.slaIndHl ∧ _ = instrLength 0xCB)

theorem slaA : Statement .slaA :=
  fun _ _ => (⟨rfl, rfl⟩ : decodeBytes 0xCB 0x27 _ = Instr.slaA ∧ _ = instrLength 0xCB)

theorem sraB : Statement .sraB :=
  fun _ _ => (⟨rfl, rfl⟩ : decodeBytes 0xCB 0x28 _ = Instr.sraB ∧ _ = instrLength 0xCB)

theorem sraC : Statement .sraC :=
  fun _ _ => (⟨rfl, rfl⟩ : decodeBytes 0xCB 0x29 _ = Instr.sraC ∧ _ = instrLength 0xCB)

theorem sraD : Statement .sraD :=
  fun _ _ => (⟨rfl, rfl⟩ : decodeBytes 0xCB 0x2A _ = Instr.sraD ∧ _ = instrLength 0xCB)

theorem sraE : Statement .sraE :=
  fun _ _ => (⟨rfl, rfl⟩ : decodeBytes 0xCB 0x2B _ = Instr.sraE ∧ _ = instrLength 0xCB)

theorem sraH : Statement .sraH :=
  fun _ _ => (⟨rfl, rfl⟩ : decodeBytes 0xCB 0x2C _ = Instr.sraH ∧ _ = instrLength 0xCB)

theorem sraL : Statement .sraL :=
  fun _ _ => (⟨rfl, rfl⟩ : decodeBytes 0xCB 0x2D _ = Instr.sraL ∧ _ = instrLength 0xCB)

theorem sraIndHl : Statement .sraIndHl :=
  fun _ _ => (⟨rfl, rfl⟩ : decodeBytes 0xCB 0x2E _ = Instr.sraIndHl ∧ _ = instrLength 0xCB)

theorem sraA : Statement .sraA :=
  fun _ _ => (⟨rfl, rfl⟩ : decodeBytes 0xCB 0x2F _ = Instr.sraA ∧ _ = instrLength 0xCB)

theorem swapB : Statement .swapB :=
  fun _ _ => (⟨rfl, rfl⟩ : decodeBytes 0xCB 0x30 _ = Instr.swapB ∧ _ = instrLength 0xCB)

theorem swapC : Statement .swapC :=
  fun _ _ => (⟨rfl, rfl⟩ : decodeBytes 0xCB 0x31 _ = Instr.swapC ∧ _ = instrLength 0xCB)

theorem swapD : Statement .swapD :=
  fun _ _ => (⟨rfl, rfl⟩ : decodeBytes 0xCB 0x32 _ = Instr.swapD ∧ _ = instrLength 0xCB)

theorem swapE : Statement .swapE :=
  fun _ _ => (⟨rfl, rfl⟩ : decodeBytes 0xCB 0x33 _ = Instr.swapE ∧ _ = instrLength 0xCB)

theorem swapH : Statement .swapH :=
  fun _ _ => (⟨rfl, rfl⟩ : decodeBytes 0xCB 0x34 _ = Instr.swapH ∧ _ = instrLength 0xCB)

theorem swapL : Statement .swapL :=
  fun _ _ => (⟨rfl, rfl⟩ : decodeBytes 0xCB 0x35 _ = Instr.swapL ∧ _ = instrLength 0xCB)

theorem swapIndHl : Statement .swapIndHl :=
  fun _ _ => (⟨rfl, rfl⟩ : decodeBytes 0xCB 0x36 _ = Instr.swapIndHl ∧ _ = instrLength 0xCB)

theorem swapA : Statement .swapA :=
  fun _ _ => (⟨rfl, rfl⟩ : decodeBytes 0xCB 0x37 _ = Instr.swapA ∧ _ = instrLength 0xCB)

theorem srlB : Statement .srlB :=
  fun _ _ => (⟨rfl, rfl⟩ : decodeBytes 0xCB 0x38 _ = Instr.srlB ∧ _ = instrLength 0xCB)

theorem srlC : Statement .srlC :=
  fun _ _ => (⟨rfl, rfl⟩ : decodeBytes 0xCB 0x39 _ = Instr.srlC ∧ _ = instrLength 0xCB)

theorem srlD : Statement .srlD :=
  fun _ _ => (⟨rfl, rfl⟩ : decodeBytes 0xCB 0x3A _ = Instr.srlD ∧ _ = instrLength 0xCB)

theorem srlE : Statement .srlE :=
  fun _ _ => (⟨rfl, rfl⟩ : decodeBytes 0xCB 0x3B _ = Instr.srlE ∧ _ = instrLength 0xCB)

theorem srlH : Statement .srlH :=
  fun _ _ => (⟨rfl, rfl⟩ : decodeBytes 0xCB 0x3C _ = Instr.srlH ∧ _ = instrLength 0xCB)

theorem srlL : Statement .srlL :=
  fun _ _ => (⟨rfl, rfl⟩ : decodeBytes 0xCB 0x3D _ = Instr.srlL ∧ _ = instrLength 0xCB)

theorem srlIndHl : Statement .srlIndHl :=
  fun _ _ => (⟨rfl, rfl⟩ : decodeBytes 0xCB 0x3E _ = Instr.srlIndHl ∧ _ = instrLength 0xCB)

theorem srlA : Statement .srlA :=
  fun _ _ => (⟨rfl, rfl⟩ : decodeBytes 0xCB 0x3F _ = Instr.srlA ∧ _ = instrLength 0xCB)

theorem bit0B : Statement .bit0B :=
  fun _ _ => (⟨rfl, rfl⟩ : decodeBytes 0xCB 0x40 _ = Instr.bit0B ∧ _ = instrLength 0xCB)

theorem bit0C : Statement .bit0C :=
  fun _ _ => (⟨rfl, rfl⟩ : decodeBytes 0xCB 0x41 _ = Instr.bit0C ∧ _ = instrLength 0xCB)

theorem bit0D : Statement .bit0D :=
  fun _ _ => (⟨rfl, rfl⟩ : decodeBytes 0xCB 0x42 _ = Instr.bit0D ∧ _ = instrLength 0xCB)

theorem bit0E : Statement .bit0E :=
  fun _ _ => (⟨rfl, rfl⟩ : decodeBytes 0xCB 0x43 _ = Instr.bit0E ∧ _ = instrLength 0xCB)

theorem bit0H : Statement .bit0H :=
  fun _ _ => (⟨rfl, rfl⟩ : decodeBytes 0xCB 0x44 _ = Instr.bit0H ∧ _ = instrLength 0xCB)

theorem bit0L : Statement .bit0L :=
  fun _ _ => (⟨rfl, rfl⟩ : decodeBytes 0xCB 0x45 _ = Instr.bit0L ∧ _ = instrLength 0xCB)

theorem bit0IndHl : Statement .bit0IndHl :=
  fun _ _ => (⟨rfl, rfl⟩ : decodeBytes 0xCB 0x46 _ = Instr.bit0IndHl ∧ _ = instrLength 0xCB)

theorem bit0A : Statement .bit0A :=
  fun _ _ => (⟨rfl, rfl⟩ : decodeBytes 0xCB 0x47 _ = Instr.bit0A ∧ _ = instrLength 0xCB)

theorem bit1B : Statement .bit1B :=
  fun _ _ => (⟨rfl, rfl⟩ : decodeBytes 0xCB 0x48 _ = Instr.bit1B ∧ _ = instrLength 0xCB)

theorem bit1C : Statement .bit1C :=
  fun _ _ => (⟨rfl, rfl⟩ : decodeBytes 0xCB 0x49 _ = Instr.bit1C ∧ _ = instrLength 0xCB)

theorem bit1D : Statement .bit1D :=
  fun _ _ => (⟨rfl, rfl⟩ : decodeBytes 0xCB 0x4A _ = Instr.bit1D ∧ _ = instrLength 0xCB)

theorem bit1E : Statement .bit1E :=
  fun _ _ => (⟨rfl, rfl⟩ : decodeBytes 0xCB 0x4B _ = Instr.bit1E ∧ _ = instrLength 0xCB)

theorem bit1H : Statement .bit1H :=
  fun _ _ => (⟨rfl, rfl⟩ : decodeBytes 0xCB 0x4C _ = Instr.bit1H ∧ _ = instrLength 0xCB)

theorem bit1L : Statement .bit1L :=
  fun _ _ => (⟨rfl, rfl⟩ : decodeBytes 0xCB 0x4D _ = Instr.bit1L ∧ _ = instrLength 0xCB)

theorem bit1IndHl : Statement .bit1IndHl :=
  fun _ _ => (⟨rfl, rfl⟩ : decodeBytes 0xCB 0x4E _ = Instr.bit1IndHl ∧ _ = instrLength 0xCB)

theorem bit1A : Statement .bit1A :=
  fun _ _ => (⟨rfl, rfl⟩ : decodeBytes 0xCB 0x4F _ = Instr.bit1A ∧ _ = instrLength 0xCB)

theorem bit2B : Statement .bit2B :=
  fun _ _ => (⟨rfl, rfl⟩ : decodeBytes 0xCB 0x50 _ = Instr.bit2B ∧ _ = instrLength 0xCB)

theorem bit2C : Statement .bit2C :=
  fun _ _ => (⟨rfl, rfl⟩ : decodeBytes 0xCB 0x51 _ = Instr.bit2C ∧ _ = instrLength 0xCB)

theorem bit2D : Statement .bit2D :=
  fun _ _ => (⟨rfl, rfl⟩ : decodeBytes 0xCB 0x52 _ = Instr.bit2D ∧ _ = instrLength 0xCB)

theorem bit2E : Statement .bit2E :=
  fun _ _ => (⟨rfl, rfl⟩ : decodeBytes 0xCB 0x53 _ = Instr.bit2E ∧ _ = instrLength 0xCB)

theorem bit2H : Statement .bit2H :=
  fun _ _ => (⟨rfl, rfl⟩ : decodeBytes 0xCB 0x54 _ = Instr.bit2H ∧ _ = instrLength 0xCB)

theorem bit2L : Statement .bit2L :=
  fun _ _ => (⟨rfl, rfl⟩ : decodeBytes 0xCB 0x55 _ = Instr.bit2L ∧ _ = instrLength 0xCB)

theorem bit2IndHl : Statement .bit2IndHl :=
  fun _ _ => (⟨rfl, rfl⟩ : decodeBytes 0xCB 0x56 _ = Instr.bit2IndHl ∧ _ = instrLength 0xCB)

theorem bit2A : Statement .bit2A :=
  fun _ _ => (⟨rfl, rfl⟩ : decodeBytes 0xCB 0x57 _ = Instr.bit2A ∧ _ = instrLength 0xCB)

theorem bit3B : Statement .bit3B :=
  fun _ _ => (⟨rfl, rfl⟩ : decodeBytes 0xCB 0x58 _ = Instr.bit3B ∧ _ = instrLength 0xCB)

theorem bit3C : Statement .bit3C :=
  fun _ _ => (⟨rfl, rfl⟩ : decodeBytes 0xCB 0x59 _ = Instr.bit3C ∧ _ = instrLength 0xCB)

theorem bit3D : Statement .bit3D :=
  fun _ _ => (⟨rfl, rfl⟩ : decodeBytes 0xCB 0x5A _ = Instr.bit3D ∧ _ = instrLength 0xCB)

theorem bit3E : Statement .bit3E :=
  fun _ _ => (⟨rfl, rfl⟩ : decodeBytes 0xCB 0x5B _ = Instr.bit3E ∧ _ = instrLength 0xCB)

theorem bit3H : Statement .bit3H :=
  fun _ _ => (⟨rfl, rfl⟩ : decodeBytes 0xCB 0x5C _ = Instr.bit3H ∧ _ = instrLength 0xCB)

theorem bit3L : Statement .bit3L :=
  fun _ _ => (⟨rfl, rfl⟩ : decodeBytes 0xCB 0x5D _ = Instr.bit3L ∧ _ = instrLength 0xCB)

theorem bit3IndHl : Statement .bit3IndHl :=
  fun _ _ => (⟨rfl, rfl⟩ : decodeBytes 0xCB 0x5E _ = Instr.bit3IndHl ∧ _ = instrLength 0xCB)

theorem bit3A : Statement .bit3A :=
  fun _ _ => (⟨rfl, rfl⟩ : decodeBytes 0xCB 0x5F _ = Instr.bit3A ∧ _ = instrLength 0xCB)

theorem bit4B : Statement .bit4B :=
  fun _ _ => (⟨rfl, rfl⟩ : decodeBytes 0xCB 0x60 _ = Instr.bit4B ∧ _ = instrLength 0xCB)

theorem bit4C : Statement .bit4C :=
  fun _ _ => (⟨rfl, rfl⟩ : decodeBytes 0xCB 0x61 _ = Instr.bit4C ∧ _ = instrLength 0xCB)

theorem bit4D : Statement .bit4D :=
  fun _ _ => (⟨rfl, rfl⟩ : decodeBytes 0xCB 0x62 _ = Instr.bit4D ∧ _ = instrLength 0xCB)

theorem bit4E : Statement .bit4E :=
  fun _ _ => (⟨rfl, rfl⟩ : decodeBytes 0xCB 0x63 _ = Instr.bit4E ∧ _ = instrLength 0xCB)

theorem bit4H : Statement .bit4H :=
  fun _ _ => (⟨rfl, rfl⟩ : decodeBytes 0xCB 0x64 _ = Instr.bit4H ∧ _ = instrLength 0xCB)

theorem bit4L : Statement .bit4L :=
  fun _ _ => (⟨rfl, rfl⟩ : decodeBytes 0xCB 0x65 _ = Instr.bit4L ∧ _ = instrLength 0xCB)

theorem bit4IndHl : Statement .bit4IndHl :=
  fun _ _ => (⟨rfl, rfl⟩ : decodeBytes 0xCB 0x66 _ = Instr.bit4IndHl ∧ _ = instrLength 0xCB)

theorem bit4A : Statement .bit4A :=
  fun _ _ => (⟨rfl, rfl⟩ : decodeBytes 0xCB 0x67 _ = Instr.bit4A ∧ _ = instrLength 0xCB)

theorem bit5B : Statement .bit5B :=
  fun _ _ => (⟨rfl, rfl⟩ : decodeBytes 0xCB 0x68 _ = Instr.bit5B ∧ _ = instrLength 0xCB)

theorem bit5C : Statement .bit5C :=
  fun _ _ => (⟨rfl, rfl⟩ : decodeBytes 0xCB 0x69 _ = Instr.bit5C ∧ _ = instrLength 0xCB)

theorem bit5D : Statement .bit5D :=
  fun _ _ => (⟨rfl, rfl⟩ : decodeBytes 0xCB 0x6A _ = Instr.bit5D ∧ _ = instrLength 0xCB)

theorem bit5E : Statement .bit5E :=
  fun _ _ => (⟨rfl, rfl⟩ : decodeBytes 0xCB 0x6B _ = Instr.bit5E ∧ _ = instrLength 0xCB)

theorem bit5H : Statement .bit5H :=
  fun _ _ => (⟨rfl, rfl⟩ : decodeBytes 0xCB 0x6C _ = Instr.bit5H ∧ _ = instrLength 0xCB)

theorem bit5L : Statement .bit5L :=
  fun _ _ => (⟨rfl, rfl⟩ : decodeBytes 0xCB 0x6D _ = Instr.bit5L ∧ _ = instrLength 0xCB)

theorem bit5IndHl : Statement .bit5IndHl :=
  fun _ _ => (⟨rfl, rfl⟩ : decodeBytes 0xCB 0x6E _ = Instr.bit5IndHl ∧ _ = instrLength 0xCB)

theorem bit5A : Statement .bit5A :=
  fun _ _ => (⟨rfl, rfl⟩ : decodeBytes 0xCB 0x6F _ = Instr.bit5A ∧ _ = instrLength 0xCB)

theorem bit6B : Statement .bit6B :=
  fun _ _ => (⟨rfl, rfl⟩ : decodeBytes 0xCB 0x70 _ = Instr.bit6B ∧ _ = instrLength 0xCB)

theorem bit6C : Statement .bit6C :=
  fun _ _ => (⟨rfl, rfl⟩ : decodeBytes 0xCB 0x71 _ = Instr.bit6C ∧ _ = instrLength 0xCB)

theorem bit6D : Statement .bit6D :=
  fun _ _ => (⟨rfl, rfl⟩ : decodeBytes 0xCB 0x72 _ = Instr.bit6D ∧ _ = instrLength 0xCB)

theorem bit6E : Statement .bit6E :=
  fun _ _ => (⟨rfl, rfl⟩ : decodeBytes 0xCB 0x73 _ = Instr.bit6E ∧ _ = instrLength 0xCB)

theorem bit6H : Statement .bit6H :=
  fun _ _ => (⟨rfl, rfl⟩ : decodeBytes 0xCB 0x74 _ = Instr.bit6H ∧ _ = instrLength 0xCB)

theorem bit6L : Statement .bit6L :=
  fun _ _ => (⟨rfl, rfl⟩ : decodeBytes 0xCB 0x75 _ = Instr.bit6L ∧ _ = instrLength 0xCB)

theorem bit6IndHl : Statement .bit6IndHl :=
  fun _ _ => (⟨rfl, rfl⟩ : decodeBytes 0xCB 0x76 _ = Instr.bit6IndHl ∧ _ = instrLength 0xCB)

theorem bit6A : Statement .bit6A :=
  fun _ _ => (⟨rfl, rfl⟩ : decodeBytes 0xCB 0x77 _ = Instr.bit6A ∧ _ = instrLength 0xCB)

theorem bit7B : Statement .bit7B :=
  fun _ _ => (⟨rfl, rfl⟩ : decodeBytes 0xCB 0x78 _ = Instr.bit7B ∧ _ = instrLength 0xCB)

theorem bit7C : Statement .bit7C :=
  fun _ _ => (⟨rfl, rfl⟩ : decodeBytes 0xCB 0x79 _ = Instr.bit7C ∧ _ = instrLength 0xCB)

theorem bit7D : Statement .bit7D :=
  fun _ _ => (⟨rfl, rfl⟩ : decodeBytes 0xCB 0x7A _ = Instr.bit7D ∧ _ = instrLength 0xCB)

theorem bit7E : Statement .bit7E :=
  fun _ _ => (⟨rfl, rfl⟩ : decodeBytes 0xCB 0x7B _ = Instr.bit7E ∧ _ = instrLength 0xCB)

theorem bit7H : Statement .bit7H :=
  fun _ _ => (⟨rfl, rfl⟩ : decodeBytes 0xCB 0x7C _ = Instr.bit7H ∧ _ = instrLength 0xCB)

theorem bit7L : Statement .bit7L :=
  fun _ _ => (⟨rfl, rfl⟩ : decodeBytes 0xCB 0x7D _ = Instr.bit7L ∧ _ = instrLength 0xCB)

theorem bit7IndHl : Statement .bit7IndHl :=
  fun _ _ => (⟨rfl, rfl⟩ : decodeBytes 0xCB 0x7E _ = Instr.bit7IndHl ∧ _ = instrLength 0xCB)

theorem bit7A : Statement .bit7A :=
  fun _ _ => (⟨rfl, rfl⟩ : decodeBytes 0xCB 0x7F _ = Instr.bit7A ∧ _ = instrLength 0xCB)

theorem res0B : Statement .res0B :=
  fun _ _ => (⟨rfl, rfl⟩ : decodeBytes 0xCB 0x80 _ = Instr.res0B ∧ _ = instrLength 0xCB)

theorem res0C : Statement .res0C :=
  fun _ _ => (⟨rfl, rfl⟩ : decodeBytes 0xCB 0x81 _ = Instr.res0C ∧ _ = instrLength 0xCB)

theorem res0D : Statement .res0D :=
  fun _ _ => (⟨rfl, rfl⟩ : decodeBytes 0xCB 0x82 _ = Instr.res0D ∧ _ = instrLength 0xCB)

theorem res0E : Statement .res0E :=
  fun _ _ => (⟨rfl, rfl⟩ : decodeBytes 0xCB 0x83 _ = Instr.res0E ∧ _ = instrLength 0xCB)

theorem res0H : Statement .res0H :=
  fun _ _ => (⟨rfl, rfl⟩ : decodeBytes 0xCB 0x84 _ = Instr.res0H ∧ _ = instrLength 0xCB)

theorem res0L : Statement .res0L :=
  fun _ _ => (⟨rfl, rfl⟩ : decodeBytes 0xCB 0x85 _ = Instr.res0L ∧ _ = instrLength 0xCB)

theorem res0IndHl : Statement .res0IndHl :=
  fun _ _ => (⟨rfl, rfl⟩ : decodeBytes 0xCB 0x86 _ = Instr.res0IndHl ∧ _ = instrLength 0xCB)

theorem res0A : Statement .res0A :=
  fun _ _ => (⟨rfl, rfl⟩ : decodeBytes 0xCB 0x87 _ = Instr.res0A ∧ _ = instrLength 0xCB)

theorem res1B : Statement .res1B :=
  fun _ _ => (⟨rfl, rfl⟩ : decodeBytes 0xCB 0x88 _ = Instr.res1B ∧ _ = instrLength 0xCB)

theorem res1C : Statement .res1C :=
  fun _ _ => (⟨rfl, rfl⟩ : decodeBytes 0xCB 0x89 _ = Instr.res1C ∧ _ = instrLength 0xCB)

theorem res1D : Statement .res1D :=
  fun _ _ => (⟨rfl, rfl⟩ : decodeBytes 0xCB 0x8A _ = Instr.res1D ∧ _ = instrLength 0xCB)

theorem res1E : Statement .res1E :=
  fun _ _ => (⟨rfl, rfl⟩ : decodeBytes 0xCB 0x8B _ = Instr.res1E ∧ _ = instrLength 0xCB)

theorem res1H : Statement .res1H :=
  fun _ _ => (⟨rfl, rfl⟩ : decodeBytes 0xCB 0x8C _ = Instr.res1H ∧ _ = instrLength 0xCB)

theorem res1L : Statement .res1L :=
  fun _ _ => (⟨rfl, rfl⟩ : decodeBytes 0xCB 0x8D _ = Instr.res1L ∧ _ = instrLength 0xCB)

theorem res1IndHl : Statement .res1IndHl :=
  fun _ _ => (⟨rfl, rfl⟩ : decodeBytes 0xCB 0x8E _ = Instr.res1IndHl ∧ _ = instrLength 0xCB)

theorem res1A : Statement .res1A :=
  fun _ _ => (⟨rfl, rfl⟩ : decodeBytes 0xCB 0x8F _ = Instr.res1A ∧ _ = instrLength 0xCB)

theorem res2B : Statement .res2B :=
  fun _ _ => (⟨rfl, rfl⟩ : decodeBytes 0xCB 0x90 _ = Instr.res2B ∧ _ = instrLength 0xCB)

theorem res2C : Statement .res2C :=
  fun _ _ => (⟨rfl, rfl⟩ : decodeBytes 0xCB 0x91 _ = Instr.res2C ∧ _ = instrLength 0xCB)

theorem res2D : Statement .res2D :=
  fun _ _ => (⟨rfl, rfl⟩ : decodeBytes 0xCB 0x92 _ = Instr.res2D ∧ _ = instrLength 0xCB)

theorem res2E : Statement .res2E :=
  fun _ _ => (⟨rfl, rfl⟩ : decodeBytes 0xCB 0x93 _ = Instr.res2E ∧ _ = instrLength 0xCB)

theorem res2H : Statement .res2H :=
  fun _ _ => (⟨rfl, rfl⟩ : decodeBytes 0xCB 0x94 _ = Instr.res2H ∧ _ = instrLength 0xCB)

theorem res2L : Statement .res2L :=
  fun _ _ => (⟨rfl, rfl⟩ : decodeBytes 0xCB 0x95 _ = Instr.res2L ∧ _ = instrLength 0xCB)

theorem res2IndHl : Statement .res2IndHl :=
  fun _ _ => (⟨rfl, rfl⟩ : decodeBytes 0xCB 0x96 _ = Instr.res2IndHl ∧ _ = instrLength 0xCB)

theorem res2A : Statement .res2A :=
  fun _ _ => (⟨rfl, rfl⟩ : decodeBytes 0xCB 0x97 _ = Instr.res2A ∧ _ = instrLength 0xCB)

theorem res3B : Statement .res3B :=
  fun _ _ => (⟨rfl, rfl⟩ : decodeBytes 0xCB 0x98 _ = Instr.res3B ∧ _ = instrLength 0xCB)

theorem res3C : Statement .res3C :=
  fun _ _ => (⟨rfl, rfl⟩ : decodeBytes 0xCB 0x99 _ = Instr.res3C ∧ _ = instrLength 0xCB)

theorem res3D : Statement .res3D :=
  fun _ _ => (⟨rfl, rfl⟩ : decodeBytes 0xCB 0x9A _ = Instr.res3D ∧ _ = instrLength 0xCB)

theorem res3E : Statement .res3E :=
  fun _ _ => (⟨rfl, rfl⟩ : decodeBytes 0xCB 0x9B _ = Instr.res3E ∧ _ = instrLength 0xCB)

theorem res3H : Statement .res3H :=
  fun _ _ => (⟨rfl, rfl⟩ : decodeBytes 0xCB 0x9C _ = Instr.res3H ∧ _ = instrLength 0xCB)

theorem res3L : Statement .res3L :=
  fun _ _ => (⟨rfl, rfl⟩ : decodeBytes 0xCB 0x9D _ = Instr.res3L ∧ _ = instrLength 0xCB)

theorem res3IndHl : Statement .res3IndHl :=
  fun _ _ => (⟨rfl, rfl⟩ : decodeBytes 0xCB 0x9E _ = Instr.res3IndHl ∧ _ = instrLength 0xCB)

theorem res3A : Statement .res3A :=
  fun _ _ => (⟨rfl, rfl⟩ : decodeBytes 0xCB 0x9F _ = Instr.res3A ∧ _ = instrLength 0xCB)

theorem res4B : Statement .res4B :=
  fun _ _ => (⟨rfl, rfl⟩ : decodeBytes 0xCB 0xA0 _ = Instr.res4B ∧ _ = instrLength 0xCB)

theorem res4C : Statement .res4C :=
  fun _ _ => (⟨rfl, rfl⟩ : decodeBytes 0xCB 0xA1 _ = Instr.res4C ∧ _ = instrLength 0xCB)

theorem res4D : Statement .res4D :=
  fun _ _ => (⟨rfl, rfl⟩ : decodeBytes 0xCB 0xA2 _ = Instr.res4D ∧ _ = instrLength 0xCB)

theorem res4E : Statement .res4E :=
  fun _ _ => (⟨rfl, rfl⟩ : decodeBytes 0xCB 0xA3 _ = Instr.res4E ∧ _ = instrLength 0xCB)

theorem res4H : Statement .res4H :=
  fun _ _ => (⟨rfl, rfl⟩ : decodeBytes 0xCB 0xA4 _ = Instr.res4H ∧ _ = instrLength 0xCB)

theorem res4L : Statement .res4L :=
  fun _ _ => (⟨rfl, rfl⟩ : decodeBytes 0xCB 0xA5 _ = Instr.res4L ∧ _ = instrLength 0xCB)

theorem res4IndHl : Statement .res4IndHl :=
  fun _ _ => (⟨rfl, rfl⟩ : decodeBytes 0xCB 0xA6 _ = Instr.res4IndHl ∧ _ = instrLength 0xCB)

theorem res4A : Statement .res4A :=
  fun _ _ => (⟨rfl, rfl⟩ : decodeBytes 0xCB 0xA7 _ = Instr.res4A ∧ _ = instrLength 0xCB)

theorem res5B : Statement .res5B :=
  fun _ _ => (⟨rfl, rfl⟩ : decodeBytes 0xCB 0xA8 _ = Instr.res5B ∧ _ = instrLength 0xCB)

theorem res5C : Statement .res5C :=
  fun _ _ => (⟨rfl, rfl⟩ : decodeBytes 0xCB 0xA9 _ = Instr.res5C ∧ _ = instrLength 0xCB)

theorem res5D : Statement .res5D :=
  fun _ _ => (⟨rfl, rfl⟩ : decodeBytes 0xCB 0xAA _ = Instr.res5D ∧ _ = instrLength 0xCB)

theorem res5E : Statement .res5E :=
  fun _ _ => (⟨rfl, rfl⟩ : decodeBytes 0xCB 0xAB _ = Instr.res5E ∧ _ = instrLength 0xCB)

theorem res5H : Statement .res5H :=
  fun _ _ => (⟨rfl, rfl⟩ : decodeBytes 0xCB 0xAC _ = Instr.res5H ∧ _ = instrLength 0xCB)

theorem res5L : Statement .res5L :=
  fun _ _ => (⟨rfl, rfl⟩ : decodeBytes 0xCB 0xAD _ = Instr.res5L ∧ _ = instrLength 0xCB)

theorem res5IndHl : Statement .res5IndHl :=
  fun _ _ => (⟨rfl, rfl⟩ : decodeBytes 0xCB 0xAE _ = Instr.res5IndHl ∧ _ = instrLength 0xCB)

theorem res5A : Statement .res5A :=
  fun _ _ => (⟨rfl, rfl⟩ : decodeBytes 0xCB 0xAF _ = Instr.res5A ∧ _ = instrLength 0xCB)

theorem res6B : Statement .res6B :=
  fun _ _ => (⟨rfl, rfl⟩ : decodeBytes 0xCB 0xB0 _ = Instr.res6B ∧ _ = instrLength 0xCB)

theorem res6C : Statement .res6C :=
  fun _ _ => (⟨rfl, rfl⟩ : decodeBytes 0xCB 0xB1 _ = Instr.res6C ∧ _ = instrLength 0xCB)

theorem res6D : Statement .res6D :=
  fun _ _ => (⟨rfl, rfl⟩ : decodeBytes 0xCB 0xB2 _ = Instr.res6D ∧ _ = instrLength 0xCB)

theorem res6E : Statement .res6E :=
  fun _ _ => (⟨rfl, rfl⟩ : decodeBytes 0xCB 0xB3 _ = Instr.res6E ∧ _ = instrLength 0xCB)

theorem res6H : Statement .res6H :=
  fun _ _ => (⟨rfl, rfl⟩ : decodeBytes 0xCB 0xB4 _ = Instr.res6H ∧ _ = instrLength 0xCB)

theorem res6L : Statement .res6L :=
  fun _ _ => (⟨rfl, rfl⟩ : decodeBytes 0xCB 0xB5 _ = Instr.res6L ∧ _ = instrLength 0xCB)

theorem res6IndHl : Statement .res6IndHl :=
  fun _ _ => (⟨rfl, rfl⟩ : decodeBytes 0xCB 0xB6 _ = Instr.res6IndHl ∧ _ = instrLength 0xCB)

theorem res6A : Statement .res6A :=
  fun _ _ => (⟨rfl, rfl⟩ : decodeBytes 0xCB 0xB7 _ = Instr.res6A ∧ _ = instrLength 0xCB)

theorem res7B : Statement .res7B :=
  fun _ _ => (⟨rfl, rfl⟩ : decodeBytes 0xCB 0xB8 _ = Instr.res7B ∧ _ = instrLength 0xCB)

theorem res7C : Statement .res7C :=
  fun _ _ => (⟨rfl, rfl⟩ : decodeBytes 0xCB 0xB9 _ = Instr.res7C ∧ _ = instrLength 0xCB)

theorem res7D : Statement .res7D :=
  fun _ _ => (⟨rfl, rfl⟩ : decodeBytes 0xCB 0xBA _ = Instr.res7D ∧ _ = instrLength 0xCB)

theorem res7E : Statement .res7E :=
  fun _ _ => (⟨rfl, rfl⟩ : decodeBytes 0xCB 0xBB _ = Instr.res7E ∧ _ = instrLength 0xCB)

theorem res7H : Statement .res7H :=
  fun _ _ => (⟨rfl, rfl⟩ : decodeBytes 0xCB 0xBC _ = Instr.res7H ∧ _ = instrLength 0xCB)

theorem res7L : Statement .res7L :=
  fun _ _ => (⟨rfl, rfl⟩ : decodeBytes 0xCB 0xBD _ = Instr.res7L ∧ _ = instrLength 0xCB)

theorem res7IndHl : Statement .res7IndHl :=
  fun _ _ => (⟨rfl, rfl⟩ : decodeBytes 0xCB 0xBE _ = Instr.res7IndHl ∧ _ = instrLength 0xCB)

theorem res7A : Statement .res7A :=
  fun _ _ => (⟨rfl, rfl⟩ : decodeBytes 0xCB 0xBF _ = Instr.res7A ∧ _ = instrLength 0xCB)

theorem set0B : Statement .set0B :=
  fun _ _ => (⟨rfl, rfl⟩ : decodeBytes 0xCB 0xC0 _ = Instr.set0B ∧ _ = instrLength 0xCB)

theorem set0C : Statement .set0C :=
  fun _ _ => (⟨rfl, rfl⟩ : decodeBytes 0xCB 0xC1 _ = Instr.set0C ∧ _ = instrLength 0xCB)

theorem set0D : Statement .set0D :=
  fun _ _ => (⟨rfl, rfl⟩ : decodeBytes 0xCB 0xC2 _ = Instr.set0D ∧ _ = instrLength 0xCB)

theorem set0E : Statement .set0E :=
  fun _ _ => (⟨rfl, rfl⟩ : decodeBytes 0xCB 0xC3 _ = Instr.set0E ∧ _ = instrLength 0xCB)

theorem set0H : Statement .set0H :=
  fun _ _ => (⟨rfl, rfl⟩ : decodeBytes 0xCB 0xC4 _ = Instr.set0H ∧ _ = instrLength 0xCB)

theorem set0L : Statement .set0L :=
  fun _ _ => (⟨rfl, rfl⟩ : decodeBytes 0xCB 0xC5 _ = Instr.set0L ∧ _ = instrLength 0xCB)

theorem set0IndHl : Statement .set0IndHl :=
  fun _ _ => (⟨rfl, rfl⟩ : decodeBytes 0xCB 0xC6 _ = Instr.set0IndHl ∧ _ = instrLength 0xCB)

theorem set0A : Statement .set0A :=
  fun _ _ => (⟨rfl, rfl⟩ : decodeBytes 0xCB 0xC7 _ = Instr.set0A ∧ _ = instrLength 0xCB)

theorem set1B : Statement .set1B :=
  fun _ _ => (⟨rfl, rfl⟩ : decodeBytes 0xCB 0xC8 _ = Instr.set1B ∧ _ = instrLength 0xCB)

theorem set1C : Statement .set1C :=
  fun _ _ => (⟨rfl, rfl⟩ : decodeBytes 0xCB 0xC9 _ = Instr.set1C ∧ _ = instrLength 0xCB)

theorem set1D : Statement .set1D :=
  fun _ _ => (⟨rfl, rfl⟩ : decodeBytes 0xCB 0xCA _ = Instr.set1D ∧ _ = instrLength 0xCB)

theorem set1E : Statement .set1E :=
  fun _ _ => (⟨rfl, rfl⟩ : decodeBytes 0xCB 0xCB _ = Instr.set1E ∧ _ = instrLength 0xCB)

theorem set1H : Statement .set1H :=
  fun _ _ => (⟨rfl, rfl⟩ : decodeBytes 0xCB 0xCC _ = Instr.set1H ∧ _ = instrLength 0xCB)

theorem set1L : Statement .set1L :=
  fun _ _ => (⟨rfl, rfl⟩ : decodeBytes 0xCB 0xCD _ = Instr.set1L ∧ _ = instrLength 0xCB)

theorem set1IndHl : Statement .set1IndHl :=
  fun _ _ => (⟨rfl, rfl⟩ : decodeBytes 0xCB 0xCE _ = Instr.set1IndHl ∧ _ = instrLength 0xCB)

theorem set1A : Statement .set1A :=
  fun _ _ => (⟨rfl, rfl⟩ : decodeBytes 0xCB 0xCF _ = Instr.set1A ∧ _ = instrLength 0xCB)

theorem set2B : Statement .set2B :=
  fun _ _ => (⟨rfl, rfl⟩ : decodeBytes 0xCB 0xD0 _ = Instr.set2B ∧ _ = instrLength 0xCB)

theorem set2C : Statement .set2C :=
  fun _ _ => (⟨rfl, rfl⟩ : decodeBytes 0xCB 0xD1 _ = Instr.set2C ∧ _ = instrLength 0xCB)

theorem set2D : Statement .set2D :=
  fun _ _ => (⟨rfl, rfl⟩ : decodeBytes 0xCB 0xD2 _ = Instr.set2D ∧ _ = instrLength 0xCB)

theorem set2E : Statement .set2E :=
  fun _ _ => (⟨rfl, rfl⟩ : decodeBytes 0xCB 0xD3 _ = Instr.set2E ∧ _ = instrLength 0xCB)

theorem set2H : Statement .set2H :=
  fun _ _ => (⟨rfl, rfl⟩ : decodeBytes 0xCB 0xD4 _ = Instr.set2H ∧ _ = instrLength 0xCB)

theorem set2L : Statement .set2L :=
  fun _ _ => (⟨rfl, rfl⟩ : decodeBytes 0xCB 0xD5 _ = Instr.set2L ∧ _ = instrLength 0xCB)

theorem set2IndHl : Statement .set2IndHl :=
  fun _ _ => (⟨rfl, rfl⟩ : decodeBytes 0xCB 0xD6 _ = Instr.set2IndHl ∧ _ = instrLength 0xCB)

theorem set2A : Statement .set2A :=
  fun _ _ => (⟨rfl, rfl⟩ : decodeBytes 0xCB 0xD7 _ = Instr.set2A ∧ _ = instrLength 0xCB)

theorem set3B : Statement .set3B :=
  fun _ _ => (⟨rfl, rfl⟩ : decodeBytes 0xCB 0xD8 _ = Instr.set3B ∧ _ = instrLength 0xCB)

theorem set3C : Statement .set3C :=
  fun _ _ => (⟨rfl, rfl⟩ : decodeBytes 0xCB 0xD9 _ = Instr.set3C ∧ _ = instrLength 0xCB)

theorem set3D : Statement .set3D :=
  fun _ _ => (⟨rfl, rfl⟩ : decodeBytes 0xCB 0xDA _ = Instr.set3D ∧ _ = instrLength 0xCB)

theorem set3E : Statement .set3E :=
  fun _ _ => (⟨rfl, rfl⟩ : decodeBytes 0xCB 0xDB _ = Instr.set3E ∧ _ = instrLength 0xCB)

theorem set3H : Statement .set3H :=
  fun _ _ => (⟨rfl, rfl⟩ : decodeBytes 0xCB 0xDC _ = Instr.set3H ∧ _ = instrLength 0xCB)

theorem set3L : Statement .set3L :=
  fun _ _ => (⟨rfl, rfl⟩ : decodeBytes 0xCB 0xDD _ = Instr.set3L ∧ _ = instrLength 0xCB)

theorem set3IndHl : Statement .set3IndHl :=
  fun _ _ => (⟨rfl, rfl⟩ : decodeBytes 0xCB 0xDE _ = Instr.set3IndHl ∧ _ = instrLength 0xCB)

theorem set3A : Statement .set3A :=
  fun _ _ => (⟨rfl, rfl⟩ : decodeBytes 0xCB 0xDF _ = Instr.set3A ∧ _ = instrLength 0xCB)

theorem set4B : Statement .set4B :=
  fun _ _ => (⟨rfl, rfl⟩ : decodeBytes 0xCB 0xE0 _ = Instr.set4B ∧ _ = instrLength 0xCB)

theorem set4C : Statement .set4C :=
  fun _ _ => (⟨rfl, rfl⟩ : decodeBytes 0xCB 0xE1 _ = Instr.set4C ∧ _ = instrLength 0xCB)

theorem set4D : Statement .set4D :=
  fun _ _ => (⟨rfl, rfl⟩ : decodeBytes 0xCB 0xE2 _ = Instr.set4D ∧ _ = instrLength 0xCB)

theorem set4E : Statement .set4E :=
  fun _ _ => (⟨rfl, rfl⟩ : decodeBytes 0xCB 0xE3 _ = Instr.set4E ∧ _ = instrLength 0xCB)

theorem set4H : Statement .set4H :=
  fun _ _ => (⟨rfl, rfl⟩ : decodeBytes 0xCB 0xE4 _ = Instr.set4H ∧ _ = instrLength 0xCB)

theorem set4L : Statement .set4L :=
  fun _ _ => (⟨rfl, rfl⟩ : decodeBytes 0xCB 0xE5 _ = Instr.set4L ∧ _ = instrLength 0xCB)

theorem set4IndHl : Statement .set4IndHl :=
  fun _ _ => (⟨rfl, rfl⟩ : decodeBytes 0xCB 0xE6 _ = Instr.set4IndHl ∧ _ = instrLength 0xCB)

theorem set4A : Statement .set4A :=
  fun _ _ => (⟨rfl, rfl⟩ : decodeBytes 0xCB 0xE7 _ = Instr.set4A ∧ _ = instrLength 0xCB)

theorem set5B : Statement .set5B :=
  fun _ _ => (⟨rfl, rfl⟩ : decodeBytes 0xCB 0xE8 _ = Instr.set5B ∧ _ = instrLength 0xCB)

theorem set5C : Statement .set5C :=
  fun _ _ => (⟨rfl, rfl⟩ : decodeBytes 0xCB 0xE9 _ = Instr.set5C ∧ _ = instrLength 0xCB)

theorem set5D : Statement .set5D :=
  fun _ _ => (⟨rfl, rfl⟩ : decodeBytes 0xCB 0xEA _ = Instr.set5D ∧ _ = instrLength 0xCB)

theorem set5E : Statement .set5E :=
  fun _ _ => (⟨rfl, rfl⟩ : decodeBytes 0xCB 0xEB _ = Instr.set5E ∧ _ = instrLength 0xCB)

theorem set5H : Statement .set5H :=
  fun _ _ => (⟨rfl, rfl⟩ : decodeBytes 0xCB 0xEC _ = Instr.set5H ∧ _ = instrLength 0xCB)

theorem set5L : Statement .set5L :=
  fun _ _ => (⟨rfl, rfl⟩ : decodeBytes 0xCB 0xED _ = Instr.set5L ∧ _ = instrLength 0xCB)

theorem set5IndHl : Statement .set5IndHl :=
  fun _ _ => (⟨rfl, rfl⟩ : decodeBytes 0xCB 0xEE _ = Instr.set5IndHl ∧ _ = instrLength 0xCB)

theorem set5A : Statement .set5A :=
  fun _ _ => (⟨rfl, rfl⟩ : decodeBytes 0xCB 0xEF _ = Instr.set5A ∧ _ = instrLength 0xCB)

theorem set6B : Statement .set6B :=
  fun _ _ => (⟨rfl, rfl⟩ : decodeBytes 0xCB 0xF0 _ = Instr.set6B ∧ _ = instrLength 0xCB)

theorem set6C : Statement .set6C :=
  fun _ _ => (⟨rfl, rfl⟩ : decodeBytes 0xCB 0xF1 _ = Instr.set6C ∧ _ = instrLength 0xCB)

theorem set6D : Statement .set6D :=
  fun _ _ => (⟨rfl, rfl⟩ : decodeBytes 0xCB 0xF2 _ = Instr.set6D ∧ _ = instrLength 0xCB)

theorem set6E : Statement .set6E :=
  fun _ _ => (⟨rfl, rfl⟩ : decodeBytes 0xCB 0xF3 _ = Instr.set6E ∧ _ = instrLength 0xCB)

theorem set6H : Statement .set6H :=
  fun _ _ => (⟨rfl, rfl⟩ : decodeBytes 0xCB 0xF4 _ = Instr.set6H ∧ _ = instrLength 0xCB)

theorem set6L : Statement .set6L :=
  fun _ _ => (⟨rfl, rfl⟩ : decodeBytes 0xCB 0xF5 _ = Instr.set6L ∧ _ = instrLength 0xCB)

theorem set6IndHl : Statement .set6IndHl :=
  fun _ _ => (⟨rfl, rfl⟩ : decodeBytes 0xCB 0xF6 _ = Instr.set6IndHl ∧ _ = instrLength 0xCB)

theorem set6A : Statement .set6A :=
  fun _ _ => (⟨rfl, rfl⟩ : decodeBytes 0xCB 0xF7 _ = Instr.set6A ∧ _ = instrLength 0xCB)

theorem set7B : Statement .set7B :=
  fun _ _ => (⟨rfl, rfl⟩ : decodeBytes 0xCB 0xF8 _ = Instr.set7B ∧ _ = instrLength 0xCB)

theorem set7C : Statement .set7C :=
  fun _ _ => (⟨rfl, rfl⟩ : decodeBytes 0xCB 0xF9 _ = Instr.set7C ∧ _ = instrLength 0xCB)

theorem set7D : Statement .set7D :=
  fun _ _ => (⟨rfl, rfl⟩ : decodeBytes 0xCB 0xFA _ = Instr.set7D ∧ _ = instrLength 0xCB)

theorem set7E : Statement .set7E :=
  fun _ _ => (⟨rfl, rfl⟩ : decodeBytes 0xCB 0xFB _ = Instr.set7E ∧ _ = instrLength 0xCB)

theorem set7H : Statement .set7H :=
  fun _ _ => (⟨rfl, rfl⟩ : decodeBytes 0xCB 0xFC _ = Instr.set7H ∧ _ = instrLength 0xCB)

theorem set7L : Statement .set7L :=
  fun _ _ => (⟨rfl, rfl⟩ : decodeBytes 0xCB 0xFD _ = Instr.set7L ∧ _ = instrLength 0xCB)

theorem set7IndHl : Statement .set7IndHl :=
  fun _ _ => (⟨rfl, rfl⟩ : decodeBytes 0xCB 0xFE _ = Instr.set7IndHl ∧ _ = instrLength 0xCB)

theorem set7A : Statement .set7A :=
  fun _ _ => (⟨rfl, rfl⟩ : decodeBytes 0xCB 0xFF _ = Instr.set7A ∧ _ = instrLength 0xCB)

theorem retNz : Statement .retNz :=
  fun _ _ => (⟨rfl, rfl⟩ : decodeBytes 0xC0 _ _ = Instr.retNz ∧ _ = instrLength 0xC0)

theorem rst00 : Statement .rst00 :=
  fun _ _ => (⟨rfl, rfl⟩ : decodeBytes 0xC7 _ _ = Instr.rst00 ∧ _ = instrLength 0xC7)

theorem retZ : Statement .retZ :=
  fun _ _ => (⟨rfl, rfl⟩ : decodeBytes 0xC8 _ _ = Instr.retZ ∧ _ = instrLength 0xC8)

theorem ret : Statement .ret :=
  fun _ _ => (⟨rfl, rfl⟩ : decodeBytes 0xC9 _ _ = Instr.ret ∧ _ = instrLength 0xC9)

theorem rst08 : Statement .rst08 :=
  fun _ _ => (⟨rfl, rfl⟩ : decodeBytes 0xCF _ _ = Instr.rst08 ∧ _ = instrLength 0xCF)

theorem retNc : Statement .retNc :=
  fun _ _ => (⟨rfl, rfl⟩ : decodeBytes 0xD0 _ _ = Instr.retNc ∧ _ = instrLength 0xD0)

theorem rst10 : Statement .rst10 :=
  fun _ _ => (⟨rfl, rfl⟩ : decodeBytes 0xD7 _ _ = Instr.rst10 ∧ _ = instrLength 0xD7)

theorem retC : Statement .retC :=
  fun _ _ => (⟨rfl, rfl⟩ : decodeBytes 0xD8 _ _ = Instr.retC ∧ _ = instrLength 0xD8)

theorem reti : Statement .reti :=
  fun _ _ => (⟨rfl, rfl⟩ : decodeBytes 0xD9 _ _ = Instr.reti ∧ _ = instrLength 0xD9)

theorem rst18 : Statement .rst18 :=
  fun _ _ => (⟨rfl, rfl⟩ : decodeBytes 0xDF _ _ = Instr.rst18 ∧ _ = instrLength 0xDF)

theorem rst20 : Statement .rst20 :=
  fun _ _ => (⟨rfl, rfl⟩ : decodeBytes 0xE7 _ _ = Instr.rst20 ∧ _ = instrLength 0xE7)

theorem jpHl : Statement .jpHl :=
  fun _ _ => (⟨rfl, rfl⟩ : decodeBytes 0xE9 _ _ = Instr.jpHl ∧ _ = instrLength 0xE9)

theorem rst28 : Statement .rst28 :=
  fun _ _ => (⟨rfl, rfl⟩ : decodeBytes 0xEF _ _ = Instr.rst28 ∧ _ = instrLength 0xEF)

theorem rst30 : Statement .rst30 :=
  fun _ _ => (⟨rfl, rfl⟩ : decodeBytes 0xF7 _ _ = Instr.rst30 ∧ _ = instrLength 0xF7)

theorem rst38 : Statement .rst38 :=
  fun _ _ => (⟨rfl, rfl⟩ : decodeBytes 0xFF _ _ = Instr.rst38 ∧ _ = instrLength 0xFF)

theorem nop : Statement .nop :=
  fun _ _ => (⟨rfl, rfl⟩ : decodeBytes 0x00 _ _ = Instr.nop ∧ _ = instrLength 0x00)

theorem halt : Statement .halt :=
  fun _ _ => (⟨rfl, rfl⟩ : decodeBytes 0x76 _ _ = Instr.halt ∧ _ = instrLength 0x76)

theorem di : Statement .di :=
  fun _ _ => (⟨rfl, rfl⟩ : decodeBytes 0xF3 _ _ = Instr.di ∧ _ = instrLength 0xF3)

theorem ei : Statement .ei :=
  fun _ _ => (⟨rfl, rfl⟩ : decodeBytes 0xFB _ _ = Instr.ei ∧ _ = instrLength 0xFB)

end Sys2Proof.Laws.Encoding
end

