-- ==== Sys2Proof/Laws/Reach.lean ====
section
/-! SUPPORT. The induction over what an instruction does: whatever the named updates keep, every instruction keeps. -/
namespace Sys2Proof.Machine

/-- The updates that every instruction is composed of keep `R`. -/
structure KeptByUpdates (R : State → Prop) : Prop where
  setR8 : ∀ t dst v, R t → R (t.setR8 dst v)
  setFlags : ∀ t f, R t → R (t.setFlags f)
  setR16 : ∀ t p w, R t → R (t.setR16 p w)
  setStk16 : ∀ t q w, R t → R (t.setStk16 q w)
  charge : ∀ t n, R t → R (t.charge n)
  memWrite : ∀ t a v, R t → R (t.memWrite a v)
  setPc : ∀ t w, R t → R { t with pc := w }
  setMode : ∀ t m, R t → R { t with mode := m }
  setIme : ∀ t b, R t → R { t with ime := b }

/-- What holds of the state that an outcome gives holds of the next state. -/
theorem ofNext {R : State → Prop} {x t : State} (e : (Host.Outcome.next x : Result) = .next t) (hx : R x) : R t := by
  cases e
  exact hx

theorem KeptByUpdates.setSp {R : State → Prop} (h : KeptByUpdates R) (t : State) (w : Word) (ht : R t) : R { t with sp := w } :=
  h.setR16 t .sp w ht

theorem KeptByUpdates.memWrite16 {R : State → Prop} (h : KeptByUpdates R) (t : State) (a w : Word) (ht : R t) :
    R (t.memWrite16 a w) := h.memWrite _ _ _ (h.memWrite _ _ _ ht)

theorem KeptByUpdates.push16 {R : State → Prop} (h : KeptByUpdates R) (t : State) (w : Word) (ht : R t) : R (t.push16 w) :=
  h.memWrite16 _ _ _ (h.setSp t _ ht)

theorem KeptByUpdates.pop16 {R : State → Prop} (h : KeptByUpdates R) (t : State) (ht : R t) : R t.pop16.2 := h.setSp t _ ht

theorem KeptByUpdates.writeOperand {R : State → Prop} (h : KeptByUpdates R) (t : State) (o : Operand8) (v : Byte) (ht : R t) :
    R (t.writeOperand o v) := by
  cases o with
  | reg r => exact h.setR8 t r v ht
  | hlInd => exact h.memWrite t t.hl v ht

theorem KeptByUpdates.putAcc {R : State → Prop} (h : KeptByUpdates R) (t : State) (r : AluResult) (ht : R t) : R (t.putAcc r) :=
  h.setFlags _ _ (h.setR8 _ _ _ ht)

theorem KeptByUpdates.loadReg {R : State → Prop} (h : KeptByUpdates R) {s t : State} {dst : Reg8} {v : Byte} {c : Nat} (hs : R s)
    (e : Machine.loadReg dst v c s = .next t) : R t := by
  cases e
  exact h.charge _ c (h.setR8 s dst v hs)

theorem KeptByUpdates.storeByte {R : State → Prop} (h : KeptByUpdates R) {s t : State} {a : Word} {v : Byte} {c : Nat} (hs : R s)
    (e : Machine.storeByte a v c s = .next t) : R t := by
  cases e
  exact h.charge _ c (h.memWrite s a v hs)

theorem KeptByUpdates.loadStep {R : State → Prop} (h : KeptByUpdates R) {s t : State} {k : Word} (hs : R s)
    (e : Machine.loadStep k s = .next t) : R t := by
  cases e
  exact h.charge _ 8 (h.setR16 _ .hl _ (h.setR8 s .a _ hs))

theorem KeptByUpdates.storeStep {R : State → Prop} (h : KeptByUpdates R) {s t : State} {k : Word} (hs : R s)
    (e : Machine.storeStep k s = .next t) : R t := by
  cases e
  exact h.charge _ 8 (h.setR16 _ .hl _ (h.memWrite s _ _ hs))

theorem KeptByUpdates.loadPair {R : State → Prop} (h : KeptByUpdates R) {s t : State} {p : Reg16} {w : Word} {c : Nat} (hs : R s)
    (e : Machine.loadPair p w c s = .next t) : R t := by
  cases e
  exact h.charge _ c (h.setR16 s p w hs)

theorem KeptByUpdates.spOffset {R : State → Prop} (h : KeptByUpdates R) {s t : State} {p : Reg16} {n : Byte} {c : Nat} (hs : R s)
    (e : Machine.spOffset p n c s = .next t) : R t := by
  cases e
  exact h.charge _ c (h.setFlags _ _ (h.setR16 s p _ hs))

theorem KeptByUpdates.pushPair {R : State → Prop} (h : KeptByUpdates R) {s t : State} {q : Stk16} (hs : R s)
    (e : Machine.pushPair q s = .next t) : R t := by
  cases e
  exact h.charge _ 16 (h.push16 s _ hs)

theorem KeptByUpdates.popPair {R : State → Prop} (h : KeptByUpdates R) {s t : State} {q : Stk16} (hs : R s)
    (e : Machine.popPair q s = .next t) : R t := by
  cases e
  exact h.charge _ 12 (h.setStk16 _ q _ (h.pop16 s hs))

theorem KeptByUpdates.addHl {R : State → Prop} (h : KeptByUpdates R) {s t : State} {p : Reg16} (hs : R s)
    (e : Machine.addHl p s = .next t) : R t := by
  cases e
  exact h.charge _ 8 (h.setFlags _ _ (h.setR16 s .hl _ hs))

theorem KeptByUpdates.addPair {R : State → Prop} (h : KeptByUpdates R) {s t : State} {p : Reg16} {k : Word} (hs : R s)
    (e : Machine.addPair p k s = .next t) : R t := by
  cases e
  exact h.charge _ 8 (h.setR16 s p _ hs)

theorem KeptByUpdates.incOperand {R : State → Prop} (h : KeptByUpdates R) {s t : State} {o : Operand8} (hs : R s)
    (e : Machine.incOperand o s = .next t) : R t := by
  cases e
  exact h.charge _ _ (h.setFlags _ _ (h.writeOperand s o _ hs))

theorem KeptByUpdates.decOperand {R : State → Prop} (h : KeptByUpdates R) {s t : State} {o : Operand8} (hs : R s)
    (e : Machine.decOperand o s = .next t) : R t := by
  cases e
  exact h.charge _ _ (h.setFlags _ _ (h.writeOperand s o _ hs))

theorem KeptByUpdates.adjustAcc {R : State → Prop} (h : KeptByUpdates R) {s t : State} {r : AluResult} (hs : R s)
    (e : Machine.adjustAcc r s = .next t) : R t := by
  cases e
  exact h.charge _ 4 (h.putAcc s r hs)

theorem KeptByUpdates.rotAcc {R : State → Prop} (h : KeptByUpdates R) {s t : State} {op : RotOp} (hs : R s)
    (e : Machine.rotAcc op s = .next t) : R t := by
  cases e
  exact h.charge _ 4 (h.putAcc s _ hs)

theorem KeptByUpdates.rotOperand {R : State → Prop} (h : KeptByUpdates R) {s t : State} {op : RotOp} {o : Operand8} (hs : R s)
    (e : Machine.rotOperand op o s = .next t) : R t := by
  cases e
  exact h.charge _ _ (h.setFlags _ _ (h.writeOperand s o _ hs))

theorem KeptByUpdates.bitOperand {R : State → Prop} (h : KeptByUpdates R) {s t : State} {b : Fin 8} {o : Operand8} (hs : R s)
    (e : Machine.bitOperand b o s = .next t) : R t := by
  cases e
  exact h.charge _ _ (h.setFlags s _ hs)

theorem KeptByUpdates.resOperand {R : State → Prop} (h : KeptByUpdates R) {s t : State} {b : Fin 8} {o : Operand8} (hs : R s)
    (e : Machine.resOperand b o s = .next t) : R t := by
  cases e
  exact h.charge _ _ (h.writeOperand s o _ hs)

theorem KeptByUpdates.setOperand {R : State → Prop} (h : KeptByUpdates R) {s t : State} {b : Fin 8} {o : Operand8} (hs : R s)
    (e : Machine.setOperand b o s = .next t) : R t := by
  cases e
  exact h.charge _ _ (h.writeOperand s o _ hs)

theorem KeptByUpdates.jumpTo {R : State → Prop} (h : KeptByUpdates R) {s t : State} {w : Word} {c : Nat} (hs : R s)
    (e : Machine.jumpTo w c s = .next t) : R t := by
  cases e
  exact h.charge _ c (h.setPc s w hs)

theorem KeptByUpdates.callTo {R : State → Prop} (h : KeptByUpdates R) {s t : State} {w : Word} {c : Nat} (hs : R s)
    (e : Machine.callTo w c s = .next t) : R t := by
  cases e
  exact h.charge _ c (h.setPc _ w (h.push16 s _ hs))

theorem KeptByUpdates.returnCharged {R : State → Prop} (h : KeptByUpdates R) {s t : State} {c : Nat} (hs : R s)
    (e : Machine.returnCharged c s = .next t) : R t := by
  cases e
  exact h.charge _ c (h.setPc _ _ (h.pop16 s hs))

theorem KeptByUpdates.aluAcc {R : State → Prop} (h : KeptByUpdates R) {s t : State} {op : AluOp} {v : Byte} {c : Nat} (hs : R s)
    (e : Machine.aluAcc op v c s = .next t) : R t := by
  cases op <;> cases e
  case cp => exact h.charge _ c (h.setFlags s _ hs)
  all_goals exact h.charge _ c (h.putAcc s _ hs)

theorem KeptByUpdates.jumpIf {R : State → Prop} (h : KeptByUpdates R) {s t : State} {cc : Cond} {w : Word} {b k : Nat} (hs : R s)
    (e : Machine.jumpIf cc w b k s = .next t) : R t := by
  unfold Machine.jumpIf at e
  split at e
  · exact h.jumpTo hs e
  · exact ofNext e (h.charge s b hs)

theorem KeptByUpdates.callIf {R : State → Prop} (h : KeptByUpdates R) {s t : State} {cc : Cond} {w : Word} (hs : R s)
    (e : Machine.callIf cc w s = .next t) : R t := by
  unfold Machine.callIf at e
  split at e
  · exact h.callTo hs e
  · exact ofNext e (h.charge s 12 hs)

theorem KeptByUpdates.returnIf {R : State → Prop} (h : KeptByUpdates R) {s t : State} {cc : Cond} (hs : R s)
    (e : Machine.returnIf cc s = .next t) : R t := by
  unfold Machine.returnIf at e
  split at e
  · exact h.returnCharged hs e
  · exact ofNext e (h.charge s 8 hs)

/-- Once for all: what the updates keep, an instruction keeps. -/
theorem KeptByUpdates.exec {R : State → Prop} (h : KeptByUpdates R) {s t : State} (i : Instr) (hs : R s)
    (e : Machine.exec i s = .next t) : R t := by
  revert e
  exact exec_cases (P := fun _ r => r = .next t → R t) s (fun _ _ _ _ => h.loadReg hs) (fun _ _ _ _ => h.storeByte hs)
    (fun _ _ => h.loadStep hs) (fun _ _ => h.storeStep hs) (fun _ _ _ _ => h.loadPair hs) (fun _ _ _ _ => h.spOffset hs)
    (fun _ a e => ofNext e (h.charge _ 20 (h.memWrite16 s a _ hs))) (fun _ _ => h.pushPair hs) (fun _ _ => h.popPair hs)
    (fun _ _ => h.addHl hs) (fun _ _ _ => h.addPair hs) (fun _ _ _ _ => h.aluAcc hs) (fun _ _ => h.incOperand hs)
    (fun _ _ => h.decOperand hs) (fun _ _ => h.adjustAcc hs) (fun _ f e => ofNext e (h.charge _ 4 (h.setFlags s f hs)))
    (fun _ _ => h.rotAcc hs) (fun _ _ _ => h.rotOperand hs) (fun _ _ _ => h.bitOperand hs) (fun _ _ _ => h.resOperand hs)
    (fun _ _ _ => h.setOperand hs) (fun _ _ _ => h.jumpTo hs) (fun _ _ _ _ _ => h.jumpIf hs) (fun _ _ _ => h.callTo hs)
    (fun _ _ _ => h.callIf hs) (fun _ _ => h.returnCharged hs) (fun _ _ => h.returnIf hs)
    (fun e => ofNext e (h.charge _ 16 (h.setPc _ _ (h.pop16 _ (h.setIme s true hs)))))
    (fun e => ofNext e (h.charge s 4 hs)) (fun e => ofNext e (h.charge _ 4 (h.setMode s .halted hs)))
    (fun _ e => ofNext e (h.charge _ 4 (h.setMode s .stopped hs))) (fun e => ofNext e (h.charge _ 4 (h.setIme s false hs)))
    (fun e => ofNext e (h.charge _ 4 (h.setIme s true hs))) (fun _ e => nomatch e) i

end Sys2Proof.Machine
end

