-- ==== Sys2Proof/Laws/Saved.lean ====
section
/-! SUPPORT. No shared operation of the instructions depends on the saved register set: replacing it before the operation is
replacing it after. -/
namespace Sys2Proof.Machine

/-- The state with its saved register set replaced. -/
def withSaved (x : Option Snapshot) (s : State) : State := { s with saved := x }

/-- The outcome with its next state changed; a fault and a refusal are left. -/
def mapNext (g : State → State) (r : Result) : Result :=
  match r with
  | .next t => .next (g t)
  | .fault f => .fault f
  | .refused q => .refused q

variable (x : Option Snapshot) (s : State)

theorem memWrite_withSaved (a : Word) (v : Byte) : (withSaved x s).memWrite a v = withSaved x (s.memWrite a v) :=
  (OutsideMemory.setSaved x).memWrite s a v

theorem memWrite16_withSaved (a w : Word) : (withSaved x s).memWrite16 a w = withSaved x (s.memWrite16 a w) := by
  simp only [State.memWrite16, memWrite_withSaved]

theorem push16_withSaved (w : Word) : (withSaved x s).push16 w = withSaved x (s.push16 w) :=
  memWrite16_withSaved x { s with sp := s.sp - 2 } _ _

theorem setR8_withSaved (r : Reg8) (v : Byte) : (withSaved x s).setR8 r v = withSaved x (s.setR8 r v) := by cases r <;> rfl

theorem setR16_withSaved (p : Reg16) (w : Word) : (withSaved x s).setR16 p w = withSaved x (s.setR16 p w) := by cases p <;> rfl

theorem readOperand_withSaved (o : Operand8) : (withSaved x s).readOperand o = s.readOperand o := by
  cases o with
  | reg r => cases r <;> rfl
  | hlInd => rfl

theorem writeOperand_withSaved (o : Operand8) (v : Byte) :
    (withSaved x s).writeOperand o v = withSaved x (s.writeOperand o v) := by
  cases o with
  | reg r => exact setR8_withSaved x s r v
  | hlInd => exact memWrite_withSaved x s s.hl v

theorem cond_withSaved (cc : Cond) : (withSaved x s).cond cc = s.cond cc := by cases cc <;> rfl

theorem getStk16_withSaved (q : Stk16) : (withSaved x s).getStk16 q = s.getStk16 q := by cases q <;> rfl

theorem loadReg_withSaved (dst : Reg8) (v : Byte) (c : Nat) :
    loadReg dst v c (withSaved x s) = mapNext (withSaved x) (loadReg dst v c s) := by
  simp only [loadReg, setR8_withSaved]
  rfl

theorem storeByte_withSaved (a : Word) (v : Byte) (c : Nat) :
    storeByte a v c (withSaved x s) = mapNext (withSaved x) (storeByte a v c s) := by
  simp only [storeByte, memWrite_withSaved]
  rfl

theorem loadStep_withSaved (k : Word) : loadStep k (withSaved x s) = mapNext (withSaved x) (loadStep k s) := rfl

theorem storeStep_withSaved (k : Word) : storeStep k (withSaved x s) = mapNext (withSaved x) (storeStep k s) := by
  simp only [storeStep, show (withSaved x s).hl = s.hl from rfl, show (withSaved x s).getA = s.getA from rfl, memWrite_withSaved]
  rfl

theorem loadPair_withSaved (p : Reg16) (w : Word) (c : Nat) :
    loadPair p w c (withSaved x s) = mapNext (withSaved x) (loadPair p w c s) := by
  simp only [loadPair, setR16_withSaved]
  rfl

theorem spOffset_withSaved (p : Reg16) (n : Byte) (c : Nat) :
    spOffset p n c (withSaved x s) = mapNext (withSaved x) (spOffset p n c s) := by cases p <;> rfl

theorem storeSp_withSaved (a : Word) :
    Host.Outcome.next (((withSaved x s).memWrite16 a s.sp).charge 20) =
      mapNext (withSaved x) (.next ((s.memWrite16 a s.sp).charge 20)) := by
  rw [memWrite16_withSaved]
  rfl

theorem pushPair_withSaved (q : Stk16) : pushPair q (withSaved x s) = mapNext (withSaved x) (pushPair q s) := by
  simp only [pushPair, push16_withSaved, getStk16_withSaved]
  rfl

theorem popPair_withSaved (q : Stk16) : popPair q (withSaved x s) = mapNext (withSaved x) (popPair q s) := by cases q <;> rfl

theorem addHl_withSaved (p : Reg16) : addHl p (withSaved x s) = mapNext (withSaved x) (addHl p s) := by cases p <;> rfl

theorem addPair_withSaved (p : Reg16) (k : Word) : addPair p k (withSaved x s) = mapNext (withSaved x) (addPair p k s) := by
  cases p <;> rfl

theorem aluAcc_withSaved (op : AluOp) (v : Byte) (c : Nat) :
    aluAcc op v c (withSaved x s) = mapNext (withSaved x) (aluAcc op v c s) := by cases op <;> rfl

theorem incOperand_withSaved (o : Operand8) : incOperand o (withSaved x s) = mapNext (withSaved x) (incOperand o s) := by
  simp only [incOperand, readOperand_withSaved, writeOperand_withSaved]
  rfl

theorem decOperand_withSaved (o : Operand8) : decOperand o (withSaved x s) = mapNext (withSaved x) (decOperand o s) := by
  simp only [decOperand, readOperand_withSaved, writeOperand_withSaved]
  rfl

theorem adjustAcc_withSaved (r : AluResult) : adjustAcc r (withSaved x s) = mapNext (withSaved x) (adjustAcc r s) := rfl

theorem rotAcc_withSaved (op : RotOp) : rotAcc op (withSaved x s) = mapNext (withSaved x) (rotAcc op s) := rfl

theorem rotOperand_withSaved (op : RotOp) (o : Operand8) :
    rotOperand op o (withSaved x s) = mapNext (withSaved x) (rotOperand op o s) := by
  simp only [rotOperand, readOperand_withSaved, writeOperand_withSaved]
  rfl

theorem bitOperand_withSaved (b : Fin 8) (o : Operand8) :
    bitOperand b o (withSaved x s) = mapNext (withSaved x) (bitOperand b o s) := by
  simp only [bitOperand, readOperand_withSaved]
  rfl

theorem resOperand_withSaved (b : Fin 8) (o : Operand8) :
    resOperand b o (withSaved x s) = mapNext (withSaved x) (resOperand b o s) := by
  simp only [resOperand, readOperand_withSaved, writeOperand_withSaved]
  rfl

theorem setOperand_withSaved (b : Fin 8) (o : Operand8) :
    setOperand b o (withSaved x s) = mapNext (withSaved x) (setOperand b o s) := by
  simp only [setOperand, readOperand_withSaved, writeOperand_withSaved]
  rfl

theorem jumpTo_withSaved (a : Word) (c : Nat) : jumpTo a c (withSaved x s) = mapNext (withSaved x) (jumpTo a c s) := rfl

theorem jumpIf_withSaved (cc : Cond) (a : Word) (c d : Nat) :
    jumpIf cc a c d (withSaved x s) = mapNext (withSaved x) (jumpIf cc a c d s) := by
  unfold jumpIf
  rw [cond_withSaved]
  split <;> rfl

theorem callTo_withSaved (a : Word) (c : Nat) : callTo a c (withSaved x s) = mapNext (withSaved x) (callTo a c s) := by
  simp only [callTo, show (withSaved x s).pc = s.pc from rfl, push16_withSaved]
  rfl

theorem callIf_withSaved (cc : Cond) (a : Word) : callIf cc a (withSaved x s) = mapNext (withSaved x) (callIf cc a s) := by
  unfold callIf
  rw [cond_withSaved]
  split
  · exact callTo_withSaved x s a _
  · rfl

theorem returnCharged_withSaved (c : Nat) : returnCharged c (withSaved x s) = mapNext (withSaved x) (returnCharged c s) := rfl

theorem returnIf_withSaved (cc : Cond) : returnIf cc (withSaved x s) = mapNext (withSaved x) (returnIf cc s) := by
  unfold returnIf
  rw [cond_withSaved]
  split <;> rfl

end Sys2Proof.Machine
end

