-- ==== Sys2Proof/Tests/Slice0.lean ====
section
/-! SUPPORT. The model's own tests. Every expected result is from the spec: encodings from the tables of 30_encoding.md and the rule
of the instruction, steps from the vectors of 95_test_vectors.md, named by their id. Then, for every statement with hypotheses, a
state and operands that meet them. -/
namespace Sys2Proof.Tests
open Sys2Proof Sys2Proof.Machine

/-! ### Well-formedness -/

/-- Only the eleven codes of R121 are removed opcodes: NOP's byte is not one. -/
theorem test_illegal_nop_is_ill_formed : (Instr.illegal 0x00).wellFormed = false := by decide

/-- The prefix is "not an instruction of its own" (R295). -/
theorem test_prefix_is_ill_formed : (Instr.prefixCb 0x07).wellFormed = false := by decide

theorem test_illegal_dd_is_well_formed : (Instr.illegal 0xDD).wellFormed = true := by decide

/-! ### Decoding: a word of each family, from its rule's encoding -/

/-- R140 `01 ddd sss`: d = 7 (A), s = 1 (C). -/
theorem test_decode_ld_a_c : decode [0b01111001] = .ok (.ldAC, []) := by decide

/-- R144, 0x36 and the byte `n`. -/
theorem test_decode_ld_at_hl_n : decode [0x36, 0xAB] = .ok (.ldIndHlN 0xAB, []) := by decide

/-- R171 `00 pp 0001`, pp = 2 (HL), the low byte first (R118). -/
theorem test_decode_ld_hl_nn : decode [0b00100001, 0x34, 0x12] = .ok (.ldHlNn 0x1234, []) := by decide

/-- R176 `11 pp 0001`, pp = 3 (AF), a byte after it left over. -/
theorem test_decode_pop_af : decode [0b11110001, 0x55] = .ok (.popAf, [0x55]) := by decide

/-- R192 `10 yyy zzz`: y = 3 (SBC), z = 6 ((HL)). -/
theorem test_decode_sbc_at_hl : decode [0b10011110] = .ok (.sbcAIndHl, []) := by decide

/-- R192 `11 yyy 110`: y = 5 (XOR). -/
theorem test_decode_xor_n : decode [0b11101110, 0x0F] = .ok (.xorAN 0x0F, []) := by decide

/-- R201 `00 yyy 100`: y = 3 (E). -/
theorem test_decode_inc_e : decode [0b00011100] = .ok (.incE, []) := by decide

/-- R232 `00 pp 1011`: pp = 3 (SP). -/
theorem test_decode_dec_sp : decode [0b00111011] = .ok (.decSp, []) := by decide

/-- R245 to R252 `CB 00 yyy zzz`: y = 5 (SRA), z = 4 (H). -/
theorem test_decode_sra_h : decode [0xCB, 0b00101100] = .ok (.sraH, []) := by decide

/-- R254 `CB 10 bbb zzz`: b = 6, z = 2 (D). -/
theorem test_decode_res_6_d : decode [0xCB, 0b10110010] = .ok (.res6D, []) := by decide

/-- R277 `110 cc 100`: cc = 2 (NC). -/
theorem test_decode_call_nc : decode [0b11010100, 0x00, 0x02] = .ok (.callNcNn 0x0200, []) := by decide

/-- R292: the byte after 0x10 belongs to `STOP`. -/
theorem test_decode_stop : decode [0x10, 0x00, 0x76] = .ok (.stop 0x00, [0x76]) := by decide

/-- The table's word for an extended entry has 0xCB in bits 15:8 (R130, log 8). -/
theorem test_table_word_extended : decodeTableWord 16 0xCB7C = some .bit7H := by decide

/-- The table's word for `JP nn` with operand words of zeros. -/
theorem test_table_word_jp : decodeTableWord 8 0xC3 = some (.jpNn 0x0000) := by decide

/-! ### One step, from the vectors of 95_test_vectors.md -/

/-- The default start of section 2: `boot_enabled` false, `PC` = 0xC000, `SP` = 0xFFFE, everything else 0; the parameters named
there. -/
def start : State :=
  { State.resetWith { defaultRead := 0xFF, dmaPageMax := 0xDF, intEntryCycles := 20, rom := [], bootRom := [] } [] with
    bootEnabled := false, pc := 0xC000, sp := 0xFFFE }

/-- A start state with an instruction's bytes at its `PC`. -/
def startWith (bytes : List Byte) (initial : State → State) : State := (initial start).placeBytes (initial start).pc bytes

/-- One step from a start state with the bytes at `PC` gives the start state changed as the vector's end column says, at the cost
given. Left out: the saved set, which the vectors do not list, and the model's own button counter. -/
def stepsTo (bytes : List Byte) (initial final : State → State) (cost : Nat) : Bool :=
  match step (startWith bytes initial) with
  | .next t =>
    decide (t = { final (startWith bytes initial) with cycles := cost, saved := t.saved, buttons := t.buttons })
  | _ => false

/-- V1.1. -/
theorem test_v1_1_ld_b_c :
    stepsTo [0x41] (fun s => { s with bc := 0x005A })
      (fun s => { s with bc := 0x5A5A, pc := 0xC001, divAcc := 4 }) 4 = true := by
  decide

/-- V1.3. -/
theorem test_v1_3_ld_d_n :
    stepsTo [0x16, 0x9C] id
      (fun s => { s with de := 0x9C00, pc := 0xC002, divAcc := 8 }) 8 = true := by
  decide

/-- V1.6. -/
theorem test_v1_6_ld_at_hl_h :
    stepsTo [0x74] (fun s => { s with hl := 0xC234 })
      (fun s => { s with pc := 0xC001, divAcc := 8, mem := s.mem.set 0xC234 0xC2 }) 8 = true := by
  decide

/-- V1.8. -/
theorem test_v1_8_ld_at_hl_n :
    stepsTo [0x36, 0xAB] (fun s => { s with hl := 0x2000 })
      (fun s => { s with pc := 0xC002, divAcc := 12 }) 12 = true := by
  decide

/-- V1.13. -/
theorem test_v1_13_ld_a_at_nn :
    stepsTo [0xFA, 0x34, 0xC1] (fun s => { s with mem := s.mem.set 0xC134 0x5C })
      (fun s => { s with af := 0x5C00, pc := 0xC003, divAcc := 16 }) 16 = true := by
  decide

/-- V1.16. -/
theorem test_v1_16_ldh_at_n_a :
    stepsTo [0xE0, 0x80] (fun s => { s with af := 0x3C00 })
      (fun s => { s with pc := 0xC002, divAcc := 12, mem := s.mem.set 0xFF80 0x3C }) 12 = true := by
  decide

/-- V1.23. -/
theorem test_v1_23_ld_at_hli_a :
    stepsTo [0x22] (fun s => { s with hl := 0xFFFF, af := 0x1F00 })
      (fun s => { s with hl := 0x0000, pc := 0xC001, divAcc := 8, io := { s.io with intEnable := 0x1F } }) 8 = true := by
  decide

/-- V1.26. -/
theorem test_v1_26_ld_a_at_hld :
    stepsTo [0x3A] (fun s => { s with hl := 0x0000, params := { s.params with rom := s.params.rom.set 0x0000 0x31 } })
      (fun s => { s with af := 0x3100, hl := 0xFFFF, pc := 0xC001, divAcc := 8 }) 8 = true := by
  decide

/-- V2.1. -/
theorem test_v2_1_ld_bc_nn :
    stepsTo [0x01, 0x34, 0x12] id
      (fun s => { s with bc := 0x1234, pc := 0xC003, divAcc := 12 }) 12 = true := by
  decide

/-- V2.4. -/
theorem test_v2_4_ld_at_nn_sp :
    stepsTo [0x08, 0xFF, 0xFF] (fun s => { s with sp := 0xAB1D })
      (fun s => { s with pc := 0xC003, divAcc := 20, io := { s.io with intEnable := 0x1D } }) 20 = true := by
  decide

/-- V2.8. -/
theorem test_v2_8_ld_hl_spn :
    stepsTo [0xF8, 0xFF] (fun s => { s with sp := 0x0001 })
      (fun s => { s with af := 0x0030, pc := 0xC002, divAcc := 12 }) 12 = true := by
  decide

/-- V2.11. -/
theorem test_v2_11_pop_af :
    stepsTo [0xF1] (fun s => { s with sp := 0xFFFC, mem := (s.mem.set 0xFFFC 0xFF).set 0xFFFD 0x12 })
      (fun s => { s with af := 0x12F0, sp := 0xFFFE, pc := 0xC001, divAcc := 12 }) 12 = true := by
  decide

/-- V2.12. -/
theorem test_v2_12_push_af :
    stepsTo [0xF5] (fun s => { s with af := 0x12F0 })
      (fun s => { s with sp := 0xFFFC, pc := 0xC001, divAcc := 16, mem := (s.mem.set 0xFFFC 0xF0).set 0xFFFD 0x12 }) 16 = true := by
  decide

/-- V2.15. -/
theorem test_v2_15_pop_hl :
    stepsTo [0xE1] (fun s => { s with sp := 0xFFFF, io := { s.io with intEnable := 0x5A }, params := { s.params with rom := s.params.rom.set 0x0000 0x77 } })
      (fun s => { s with hl := 0x775A, sp := 0x0001, pc := 0xC001, divAcc := 12 }) 12 = true := by
  decide

/-- V3.2. -/
theorem test_v3_2_add_a_b :
    stepsTo [0x80] (fun s => { s with af := 0xFF00, bc := 0x0100 })
      (fun s => { s with af := 0x00B0, pc := 0xC001, divAcc := 4 }) 4 = true := by
  decide

/-- V3.6. -/
theorem test_v3_6_adc_a_c :
    stepsTo [0x89] (fun s => { s with af := 0x0E10, bc := 0x0001 })
      (fun s => { s with af := 0x1020, pc := 0xC001, divAcc := 4 }) 4 = true := by
  decide

/-- V3.8. -/
theorem test_v3_8_sub_a_b :
    stepsTo [0x90] (fun s => { s with af := 0x0000, bc := 0x0100 })
      (fun s => { s with af := 0xFF70, pc := 0xC001, divAcc := 4 }) 4 = true := by
  decide

/-- V3.13. -/
theorem test_v3_13_sbc_a_n :
    stepsTo [0xDE, 0x00] (fun s => { s with af := 0x0010 })
      (fun s => { s with af := 0xFF70, pc := 0xC002, divAcc := 8 }) 8 = true := by
  decide

/-- V3.15. -/
theorem test_v3_15_cp_a_b :
    stepsTo [0xB8] (fun s => { s with af := 0x3C00, bc := 0x4000 })
      (fun s => { s with af := 0x3C50, pc := 0xC001, divAcc := 4 }) 4 = true := by
  decide

/-- V3.17. -/
theorem test_v3_17_and_a_l :
    stepsTo [0xA5] (fun s => { s with af := 0xF000, hl := 0x000F })
      (fun s => { s with af := 0x00A0, pc := 0xC001, divAcc := 4 }) 4 = true := by
  decide

/-- V3.18. -/
theorem test_v3_18_xor_a_a :
    stepsTo [0xAF] (fun s => { s with af := 0x77F0 })
      (fun s => { s with af := 0x0080, pc := 0xC001, divAcc := 4 }) 4 = true := by
  decide

/-- V3.21. -/
theorem test_v3_21_or_a_at_hl :
    stepsTo [0xB6] (fun s => { s with af := 0x5A00, hl := 0xC100, mem := s.mem.set 0xC100 0x0F })
      (fun s => { s with af := 0x5F00, pc := 0xC001, divAcc := 8 }) 8 = true := by
  decide

/-- V3.22. -/
theorem test_v3_22_inc_b :
    stepsTo [0x04] (fun s => { s with bc := 0xFF00, af := 0x0010 })
      (fun s => { s with af := 0x00B0, bc := 0x0000, pc := 0xC001, divAcc := 4 }) 4 = true := by
  decide

/-- V3.28. -/
theorem test_v3_28_dec_at_hl :
    stepsTo [0x35] (fun s => { s with hl := 0xFF04, divAcc := 100, io := { s.io with div := 0x40 } })
      (fun s => { s with af := 0x0060, pc := 0xC001, divAcc := 12, io := { s.io with div := 0x00 } }) 12 = true := by
  decide

/-- V3.30. -/
theorem test_v3_30_daa :
    stepsTo [0x27] (fun s => { s with af := 0x4B60 })
      (fun s => { s with af := 0x4540, pc := 0xC001, divAcc := 4 }) 4 = true := by
  decide

/-- V3.34. -/
theorem test_v3_34_daa :
    stepsTo [0x27] (fun s => { s with af := 0xCE70 })
      (fun s => { s with af := 0x6850, pc := 0xC001, divAcc := 4 }) 4 = true := by
  decide

/-- V3.35. -/
theorem test_v3_35_cpl :
    stepsTo [0x2F] (fun s => { s with af := 0x3590 })
      (fun s => { s with af := 0xCAF0, pc := 0xC001, divAcc := 4 }) 4 = true := by
  decide

/-- V3.38. -/
theorem test_v3_38_ccf :
    stepsTo [0x3F] (fun s => { s with af := 0x0000 })
      (fun s => { s with af := 0x0010, pc := 0xC001, divAcc := 4 }) 4 = true := by
  decide

/-- V4.1. -/
theorem test_v4_1_add_hl_bc :
    stepsTo [0x09] (fun s => { s with hl := 0x0FFF, bc := 0x0001, af := 0x0080 })
      (fun s => { s with af := 0x00A0, hl := 0x1000, pc := 0xC001, divAcc := 8 }) 8 = true := by
  decide

/-- V4.3. -/
theorem test_v4_3_add_hl_hl :
    stepsTo [0x29] (fun s => { s with hl := 0x8A23, af := 0x00C0 })
      (fun s => { s with af := 0x00B0, hl := 0x1446, pc := 0xC001, divAcc := 8 }) 8 = true := by
  decide

/-- V4.5. -/
theorem test_v4_5_inc_bc :
    stepsTo [0x03] (fun s => { s with bc := 0xFFFF, af := 0x0000 })
      (fun s => { s with bc := 0x0000, pc := 0xC001, divAcc := 8 }) 8 = true := by
  decide

/-- V4.8. -/
theorem test_v4_8_dec_hl :
    stepsTo [0x2B] (fun s => { s with hl := 0x0100 })
      (fun s => { s with hl := 0x00FF, pc := 0xC001, divAcc := 8 }) 8 = true := by
  decide

/-- V4.10. -/
theorem test_v4_10_add_sp_n :
    stepsTo [0xE8, 0xFF] (fun s => { s with sp := 0x0000 })
      (fun s => { s with sp := 0xFFFF, pc := 0xC002, divAcc := 16 }) 16 = true := by
  decide

/-- V5.2. -/
theorem test_v5_2_rlca :
    stepsTo [0x07] (fun s => { s with af := 0x00F0 })
      (fun s => { s with af := 0x0000, pc := 0xC001, divAcc := 4 }) 4 = true := by
  decide

/-- V5.3. -/
theorem test_v5_3_rrca :
    stepsTo [0x0F] (fun s => { s with af := 0x0100 })
      (fun s => { s with af := 0x8010, pc := 0xC001, divAcc := 4 }) 4 = true := by
  decide

/-- V5.6. -/
theorem test_v5_6_rra :
    stepsTo [0x1F] (fun s => { s with af := 0x0110 })
      (fun s => { s with af := 0x8010, pc := 0xC001, divAcc := 4 }) 4 = true := by
  decide

/-- V5.10. -/
theorem test_v5_10_rlc_at_hl :
    stepsTo [0xCB, 0x06] (fun s => { s with hl := 0xC100, mem := s.mem.set 0xC100 0x80 })
      (fun s => { s with af := 0x0010, pc := 0xC002, divAcc := 16, mem := s.mem.set 0xC100 0x01 }) 16 = true := by
  decide

/-- V5.13. -/
theorem test_v5_13_rl_e :
    stepsTo [0xCB, 0x13] (fun s => { s with de := 0x0011, af := 0x0010 })
      (fun s => { s with af := 0x0000, de := 0x0023, pc := 0xC002, divAcc := 8 }) 8 = true := by
  decide

/-- V5.14. -/
theorem test_v5_14_rr_h :
    stepsTo [0xCB, 0x1C] (fun s => { s with hl := 0x0100 })
      (fun s => { s with af := 0x0090, hl := 0x0000, pc := 0xC002, divAcc := 8 }) 8 = true := by
  decide

/-- V5.18. -/
theorem test_v5_18_sra_a :
    stepsTo [0xCB, 0x2F] (fun s => { s with af := 0x8100 })
      (fun s => { s with af := 0xC010, pc := 0xC002, divAcc := 8 }) 8 = true := by
  decide

/-- V5.20. -/
theorem test_v5_20_swap_a :
    stepsTo [0xCB, 0x37] (fun s => { s with af := 0xF110 })
      (fun s => { s with af := 0x1F00, pc := 0xC002, divAcc := 8 }) 8 = true := by
  decide

/-- V5.26. -/
theorem test_v5_26_bit_0_at_hl :
    stepsTo [0xCB, 0x46] (fun s => { s with hl := 0xC100, af := 0x0010, mem := s.mem.set 0xC100 0xFE })
      (fun s => { s with af := 0x00B0, pc := 0xC002, divAcc := 12 }) 12 = true := by
  decide

/-- V5.28. -/
theorem test_v5_28_res_7_at_hl :
    stepsTo [0xCB, 0xBE] (fun s => { s with hl := 0xC100, mem := s.mem.set 0xC100 0xFF })
      (fun s => { s with pc := 0xC002, divAcc := 16, mem := s.mem.set 0xC100 0x7F }) 16 = true := by
  decide

/-- V5.30. -/
theorem test_v5_30_set_3_e :
    stepsTo [0xCB, 0xDB] (fun s => { s with de := 0x0008 })
      (fun s => { s with pc := 0xC002, divAcc := 8 }) 8 = true := by
  decide

/-- V6.2. -/
theorem test_v6_2_jp_z_nn :
    stepsTo [0xCA, 0x00, 0x80] (fun s => { s with af := 0x0080 })
      (fun s => { s with pc := 0x8000, divAcc := 16 }) 16 = true := by
  decide

/-- V6.3. -/
theorem test_v6_3_jp_z_nn :
    stepsTo [0xCA, 0x00, 0x80] (fun s => { s with af := 0x0070 })
      (fun s => { s with pc := 0xC003, divAcc := 12 }) 12 = true := by
  decide

/-- V6.5. -/
theorem test_v6_5_jr_n :
    stepsTo [0x18, 0x05] (fun s => { s with pc := 0x0000 })
      (fun s => { s with pc := 0x0007, divAcc := 12 }) 12 = true := by
  decide

/-- V6.9. -/
theorem test_v6_9_jr_n :
    stepsTo [0x18, 0xF0] (fun s => { s with pc := 0x0004 })
      (fun s => { s with pc := 0xFFF6, divAcc := 12 }) 12 = true := by
  decide

/-- V6.11. -/
theorem test_v6_11_jr_nz_n :
    stepsTo [0x20, 0xFB] (fun s => { s with af := 0x0080 })
      (fun s => { s with pc := 0xC002, divAcc := 8 }) 8 = true := by
  decide

/-- V6.15. -/
theorem test_v6_15_call_c_nn :
    stepsTo [0xDC, 0x00, 0x02] id
      (fun s => { s with pc := 0xC003, divAcc := 12 }) 12 = true := by
  decide

/-- V6.16. -/
theorem test_v6_16_call_nz_nn :
    stepsTo [0xC4, 0x34, 0xD2] id
      (fun s => { s with sp := 0xFFFC, pc := 0xD234, divAcc := 24, mem := (s.mem.set 0xFFFC 0x03).set 0xFFFD 0xC0 }) 24 = true := by
  decide

/-- V6.19. -/
theorem test_v6_19_ret_z :
    stepsTo [0xC8] (fun s => { s with af := 0x0080, sp := 0xFFFC, mem := (s.mem.set 0xFFFC 0x53).set 0xFFFD 0x01 })
      (fun s => { s with sp := 0xFFFE, pc := 0x0153, divAcc := 20 }) 20 = true := by
  decide

/-- V6.20. -/
theorem test_v6_20_reti :
    stepsTo [0xD9] (fun s => { s with sp := 0xFFFC, mem := (s.mem.set 0xFFFC 0x03).set 0xFFFD 0x01 })
      (fun s => { s with sp := 0xFFFE, pc := 0x0103, ime := true, divAcc := 16 }) 16 = true := by
  decide

/-- V6.21. -/
theorem test_v6_21_rst_28 :
    stepsTo [0xEF] id
      (fun s => { s with sp := 0xFFFC, pc := 0x0028, divAcc := 16, mem := (s.mem.set 0xFFFC 0x01).set 0xFFFD 0xC0 }) 16 = true := by
  decide

/-- V7.2. -/
theorem test_v7_2_halt :
    stepsTo [0x76] (fun s => { s with ime := true })
      (fun s => { s with pc := 0xC001, mode := .halted, divAcc := 4 }) 4 = true := by
  decide

/-- V7.3. -/
theorem test_v7_3_stop :
    stepsTo [0x10, 0x00] id
      (fun s => { s with pc := 0xC002, mode := .stopped, divAcc := 4 }) 4 = true := by
  decide

/-- V7.4. -/
theorem test_v7_4_di :
    stepsTo [0xF3] (fun s => { s with ime := true, io := { s.io with intEnable := 0x01 } })
      (fun s => { s with pc := 0xC001, ime := false, divAcc := 4 }) 4 = true := by
  decide

/-- V7.5. -/
theorem test_v7_5_ei :
    stepsTo [0xFB] id
      (fun s => { s with pc := 0xC001, ime := true, divAcc := 4 }) 4 = true := by
  decide

/-- V7.6. -/
theorem test_v7_6_prefix_cb_rlc_a :
    stepsTo [0xCB, 0x07] (fun s => { s with af := 0x8500 })
      (fun s => { s with af := 0x0B10, pc := 0xC002, divAcc := 8 }) 8 = true := by
  decide

/-- V8.1. -/
theorem test_v8_1_ld_a_at_nn :
    stepsTo [0xFA, 0x10, 0x00] (fun s => { s with bootEnabled := true, params := { s.params with rom := s.params.rom.set 0x0010 0x22, bootRom := s.params.bootRom.set 0x10 0x99 } })
      (fun s => { s with af := 0x9900, pc := 0xC003, divAcc := 16 }) 16 = true := by
  decide

/-- V8.5. -/
theorem test_v8_5_ldh_at_n_a :
    stepsTo [0xE0, 0x50] (fun s => { s with af := 0x0000, bootEnabled := true })
      (fun s => { s with pc := 0xC002, bootEnabled := false, divAcc := 12 }) 12 = true := by
  decide

/-- V8.7. -/
theorem test_v8_7_ldh_at_n_a :
    stepsTo [0xE0, 0x46] (fun s => { s with af := 0xE000, mem := s.mem.set 0xE000 0x55 })
      (fun s => { s with pc := 0xC002, divAcc := 12, io := { s.io with dma := 0xE0 } }) 12 = true := by
  decide

/-- V8.8. -/
theorem test_v8_8_ldh_at_n_a :
    stepsTo [0xE0, 0x04] (fun s => { s with af := 0x7700, divAcc := 200, io := { s.io with div := 0x9C } })
      (fun s => { s with pc := 0xC002, divAcc := 12, io := { s.io with div := 0x00 } }) 12 = true := by
  decide

/-- V8.9. -/
theorem test_v8_9_ldh_at_n_a :
    stepsTo [0xE0, 0x41] (fun s => { s with af := 0xFF00, io := { s.io with stat := 0x02 } })
      (fun s => { s with pc := 0xC002, divAcc := 12, io := { s.io with stat := 0x7A } }) 12 = true := by
  decide

/-- V9.1. -/
theorem test_v9_1_interrupt_entry :
    stepsTo [0x00] (fun s => { s with pc := 0xC150, ime := true, io := { s.io with intEnable := 0x1F, intFlag := 0x05 } })
      (fun s => { s with sp := 0xFFFC, pc := 0x0040, ime := false, divAcc := 20, io := { s.io with intFlag := 0x04 }, mem := (s.mem.set 0xFFFC 0x50).set 0xFFFD 0xC1 }) 20 = true := by
  decide

/-- V9.3. -/
theorem test_v9_3_nop :
    stepsTo [0x00] (fun s => { s with pc := 0xC150, ime := true, io := { s.io with intEnable := 0x1A, intFlag := 0x05 } })
      (fun s => { s with pc := 0xC151, divAcc := 4 }) 4 = true := by
  decide

/-- V9.9. -/
theorem test_v9_9_interrupt_entry :
    stepsTo [0x00] (fun s => { s with pc := 0xC150, sp := 0x0001, ime := true, io := { s.io with intEnable := 0x08, intFlag := 0x08 } })
      (fun s => { s with sp := 0xFFFF, pc := 0x0058, ime := false, divAcc := 20, io := { s.io with intFlag := 0x00, intEnable := 0x50 } }) 20 = true := by
  decide

/-- V10.1. -/
theorem test_v10_1_nop :
    stepsTo [0x00] (fun s => { s with divAcc := 252, io := { s.io with div := 0xFF } })
      (fun s => { s with pc := 0xC001, divAcc := 0, io := { s.io with div := 0x00 } }) 4 = true := by
  decide

/-- V10.3. -/
theorem test_v10_3_call_nn :
    stepsTo [0xCD, 0x00, 0xD0] (fun s => { s with divAcc := 250, io := { s.io with div := 0x07 } })
      (fun s => { s with sp := 0xFFFC, pc := 0xD000, divAcc := 18, io := { s.io with div := 0x08 }, mem := (s.mem.set 0xFFFC 0x03).set 0xFFFD 0xC0 }) 24 = true := by
  decide

/-- V10.5. -/
theorem test_v10_5_nop :
    stepsTo [0x00] (fun s => { s with timaAcc := 12, io := { s.io with tac := 0x05, tima := 0xFF, tma := 0xF0 } })
      (fun s => { s with pc := 0xC001, divAcc := 4, timaAcc := 0, io := { s.io with tima := 0xF0, intFlag := 0x04 } }) 4 = true := by
  decide

/-- V10.7. -/
theorem test_v10_7_call_nn :
    stepsTo [0xCD, 0x00, 0xD0] (fun s => { s with timaAcc := 10, io := { s.io with tac := 0x05, tima := 0xFE, tma := 0xFE } })
      (fun s => { s with sp := 0xFFFC, pc := 0xD000, divAcc := 24, timaAcc := 2, io := { s.io with intFlag := 0x04 }, mem := (s.mem.set 0xFFFC 0x03).set 0xFFFD 0xC0 }) 24 = true := by
  decide

/-- V7.7: a removed opcode ends the run with the state as it was, `PC` one past the opcode. -/
theorem test_v7_7_illegal :
    step (startWith [0xD3] id) =
      .fault (.fatal (.removedOpcode 0xD3) { startWith [0xD3] id with pc := 0xC001 }) :=
  rfl

/-- V9.1: the saved set holds the registers as they were (R318). -/
theorem test_v9_1_saved_set :
    ((startWith [0x00] (fun s => { s with pc := 0xC150, ime := true, bc := 0x1234 })).interruptEntry .vblank).saved =
      some { af := 0x0000, bc := 0x1234, de := 0x0000, hl := 0x0000, sp := 0xFFFE, pc := 0xC150 } := by
  decide

/-- V8.6: the copy of page 0x90 to OAM, seen at its first and its last byte. -/
theorem test_v8_6_dma :
    let s : State := { start with mem := (start.mem.set 0x9000 0xA0).set 0x90FF 0x9F }
    (s.memWrite 0xFF46 0x90).memRead 0xFE00 = 0xA0 ∧ (s.memWrite 0xFF46 0x90).memRead 0xFEFF = 0x9F := by
  decide +kernel

/-- S4, S5, S6: the worked examples of the two primitives. -/
theorem test_primitives :
    add8 0x0F 0x01 false = { value := 0x10, flags := { z := false, n := false, h := true, c := false } } ∧
    add8 0xFF 0x01 false = { value := 0x00, flags := { z := true, n := false, h := true, c := true } } ∧
    sub8 0x00 0x01 false = { value := 0xFF, flags := { z := false, n := true, h := true, c := true } } := by
  decide

/-- R125, R295: the payload's literal at its place; the prefix's template unchanged. -/
theorem test_disassemble :
    disassemble 0x18 [0x05] = "JR 0x05" ∧ disassemble 0xCB [] = "PREFIX CB" ∧ disassembleExtended 0x7C = "BIT 7,H" := by
  decide

/-- R331: no step from `Halted`. -/
theorem test_halted_has_no_step : step { start with mode := .halted } = .fault (.noStep .halted) := rfl

/-! ### The statements' hypotheses can be met -/

/-- The ends of each range of a memory at reset: the byte is the arbitrary one, no number of the model's. -/
theorem witness_ResetLeavesTheStatedValues :
    ((0x8000 ≤ (0x8000 : Word).toNat ∧ (0x8000 : Word).toNat ≤ 0xFEFF) ∧ State.reset.memRead 0x8000 = Config.initMem 0x8000) ∧
    ((0x8000 ≤ (0xFEFF : Word).toNat ∧ (0xFEFF : Word).toNat ≤ 0xFEFF) ∧ State.reset.memRead 0xFEFF = Config.initMem 0xFEFF) ∧
    ((0xFF80 ≤ (0xFFFE : Word).toNat ∧ (0xFFFE : Word).toNat ≤ 0xFFFE) ∧ State.reset.memRead 0xFFFE = Config.initMem 0xFFFE) ∧
    ((0x00FF : Word).toNat ≤ 0x00FF ∧ State.reset.memRead 0x00FF = Config.bootRom 0x00FF) ∧
    ((0x0100 ≤ (0x0100 : Word).toNat ∧ (0x0100 : Word).toNat ≤ 0x7FFF) ∧ State.reset.memRead 0x0100 = Config.rom 0x0100) :=
  ⟨⟨by decide, rfl⟩, ⟨by decide, rfl⟩, ⟨by decide, rfl⟩, ⟨by decide, rfl⟩, by decide, rfl⟩

/-- The two ends of the unmapped range that hold no register: 0xFF03 and 0xFF7F (R68, R70). -/
theorem noRegister_ff03 : ∀ r : HwReg, (0xFF03 : Word) ≠ r.addr := by
  intro r
  cases r <;> decide

theorem noRegister_ff7f : ∀ r : HwReg, (0xFF7F : Word) ≠ r.addr := by
  intro r
  cases r <;> decide

/-- R61 at the ends of every region. -/
theorem witness_AddressDecoderRegions :
    (decodeAddr true 0x0000 = .bootOverlay ∧ decodeAddr true 0x00FF = .bootOverlay) ∧
    (decodeAddr false 0x0000 = .rom ∧ decodeAddr false 0x00FF = .rom) ∧
    (decodeAddr true 0x0100 = .rom ∧ decodeAddr true 0x7FFF = .rom) ∧
    (decodeAddr false 0x8000 = .ram ∧ decodeAddr false 0xFDFF = .ram) ∧
    (decodeAddr false 0xFE00 = .oam ∧ decodeAddr false 0xFEFF = .oam) ∧
    (decodeAddr false 0xFF00 = .register .joyp ∧ decodeAddr false 0xFFFF = .register .intEnable) ∧
    (decodeAddr false 0xFF80 = .hram ∧ decodeAddr false 0xFFFE = .hram) ∧
    (decodeAddr false 0xFF03 = .unmapped ∧ decodeAddr false 0xFF7F = .unmapped) := by
  decide

/-- A start state whose overlay is on, with `BOOT_ROM` 0x99 at 0xFF. -/
def overlaid : State := { start with bootEnabled := true, params := { start.params with bootRom := [(0xFF, 0x99)] } }

theorem witness_OverlayAndUnmappedReads :
    (overlaid.bootEnabled = true ∧ (0x00FF : Word).toNat ≤ 0x00FF ∧ overlaid.memRead 0x00FF = 0x99) ∧
    (start.bootEnabled = false ∧ (0x00FF : Word).toNat ≤ 0x00FF ∧ start.memRead 0x00FF = Config.rom 0x00FF) ∧
    (0xFF00 ≤ (0xFF03 : Word).toNat ∧ (0xFF03 : Word).toNat ≤ 0xFF7F ∧ (∀ r : HwReg, (0xFF03 : Word) ≠ r.addr) ∧
      start.memRead 0xFF03 = 0xFF) :=
  ⟨by decide, ⟨by decide, by decide, rfl⟩, by decide, by decide, noRegister_ff03, by decide⟩

theorem witness_IgnoredWritesChangeNothing :
    ((0x7FFF : Word).toNat ≤ 0x7FFF ∧ start.memWrite 0x7FFF 0xAA = start) ∧
    (0xFF00 ≤ (0xFF7F : Word).toNat ∧ (0xFF7F : Word).toNat ≤ 0xFF7F ∧ (∀ r : HwReg, (0xFF7F : Word) ≠ r.addr) ∧
      start.memWrite 0xFF7F 0xAA = start) :=
  ⟨by decide, by decide, by decide, noRegister_ff7f, by decide⟩

theorem witness_PlainStorageReadsBack :
    ((0x8000 ≤ (0x8000 : Word).toNat ∧ (0x8000 : Word).toNat ≤ 0xFDFF) ∧ (start.memWrite 0x8000 0x5A).memRead 0x8000 = 0x5A) ∧
    ((0xFE00 ≤ (0xFEFF : Word).toNat ∧ (0xFEFF : Word).toNat ≤ 0xFEFF) ∧ (start.memWrite 0xFEFF 0x5A).memRead 0xFEFF = 0x5A) ∧
    ((0xFF80 ≤ (0xFFFE : Word).toNat ∧ (0xFFFE : Word).toNat ≤ 0xFFFE) ∧ (start.memWrite 0xFFFE 0x5A).memRead 0xFFFE = 0x5A) ∧
    (0x8001 : Word) ≠ 0x8000 := by
  decide

theorem witness_WordsAreLittleEndian :
    (0x8000 ≤ (0xFEFE : Word).toNat ∧ (0xFEFE : Word).toNat ≤ 0xFEFE ∧ (start.memWrite16 0xFEFE 0x1234).memRead16 0xFEFE = 0x1234) ∧
    (start.memWrite16 0xFFFF 0x121F).io.intEnable = 0x1F := by
  decide

theorem witness_PlainRegistersStoreTheByte :
    HwReg.intEnable ∈ ([.sb, .sc, .tima, .tma, .tac, .intFlag, .lcdc, .scy, .scx, .ly, .bgp, .obp0, .obp1, .intEnable] : List HwReg) ∧
    HwReg.div ≠ HwReg.intEnable ∧ (start.memWrite 0xFFFF 0x1F).memRead 0xFFFF = 0x1F := by
  decide

/-- A page inside the bound and one outside, at the ends (R79). -/
theorem witness_DmaTriggerCopiesThePage :
    ((0xDF : Byte).toNat ≤ start.params.dmaPageMax.toNat ∧ 255 < 256 ∧ (0xFDFF : Word).toNat < 0xFE00) ∧
    (start.params.dmaPageMax.toNat < (0xE0 : Byte).toNat ∧ (start.memWrite 0xFF46 0xE0).io.dma = 0xE0) := by
  decide

theorem witness_RomAndParametersNeverChange :
    ((0x7FFF : Word).toNat ≤ 0x7FFF ∧ (start.bootEnabled = false ∨ 0x00FF < (0x7FFF : Word).toNat)) ∧
    ((0x0100 : Word).toNat ≤ 0x7FFF ∧ (overlaid.bootEnabled = false ∨ 0x00FF < (0x0100 : Word).toNat)) ∧
    ∃ t, step (startWith [0x00] id) = .next t :=
  ⟨by decide, by decide, _, rfl⟩

theorem witness_OverlayIsNeverEnabledAgain :
    ∃ t, step (startWith [0x00] id) = .next t ∧ (startWith [0x00] id).bootEnabled = false := ⟨_, rfl, rfl⟩

theorem witness_DecodeOfEncodeIsTheInstruction : (Instr.ldAN 0x3F).wellFormed = true ∧ (Instr.illegal 0xFD).wellFormed = true := by
  decide

theorem witness_PrefixRunsTheExtendedEntry : (startWith [0xCB, 0x07] id).memRead (startWith [0xCB, 0x07] id).pc = 0xCB := by decide

/-- An instruction that completes, with `IME` clear and a source pending and enabled (V9.2); one that stops, with `IME` set and
the three upper bits alone pending and enabled (V9.5). -/
theorem witness_StepRunsTheDecodedInstruction :
    (let s := startWith [0x18, 0x05, 0x76] (fun s => { s with io := { s.io with intEnable := 0x1F, intFlag := 0x01 } });
      s.mode = .running ∧ s.ime = false ∧
      decode [s.memRead s.pc, s.memRead (s.pc + 1), s.memRead (s.pc + 2)] = .ok (.jrN 0x05, [0x76])) ∧
    (let s := startWith [0xFD, 0x00, 0x00]
        (fun s => { s with ime := true, io := { s.io with intEnable := 0xFF, intFlag := 0xE0 } });
      s.mode = .running ∧ (s.io.intEnable &&& s.io.intFlag) &&& 0x1F = 0 ∧
      decode [s.memRead s.pc, s.memRead (s.pc + 1), s.memRead (s.pc + 2)] = .ok (.illegal 0xFD, [0x00, 0x00])) := by
  decide

/-- A state with two sources pending and enabled (S9). -/
def interrupted : State := { start with ime := true, io := { start.io with intEnable := 0x1F, intFlag := 0x05 } }

theorem witness_StepTakesThePendingInterrupt :
    interrupted.mode = .running ∧ interrupted.ime = true ∧
      getIsr (interrupted.io.intEnable &&& interrupted.io.intFlag) = some .vblank := by
  decide

theorem witness_RetiAfterInterruptEntryResumes :
    (0x8002 ≤ ({ interrupted with sp := 0x8002 } : State).sp.toNat ∧ ({ interrupted with sp := 0x8002 } : State).sp.toNat ≤ 0xFF00) ∧
    (0x8002 ≤ ({ interrupted with sp := 0xFF00 } : State).sp.toNat ∧
      ({ interrupted with sp := 0xFF00 } : State).sp.toNat ≤ 0xFF00) := by
  decide

theorem witness_OnlyHaltAndStopLeaveRunning :
    ({ start with mode := .stopped } : State).mode ≠ .running ∧ (∃ t, step (startWith [0x76] id) = .next t ∧ t.mode = .halted) ∧
    (∃ t, step (startWith [0x10, 0x00] id) = .next t ∧ t.mode = .stopped) ∧
    ∃ t, step (startWith [0x00] id) = .next t ∧ t.mode = .running :=
  ⟨by decide, ⟨_, rfl, rfl⟩, ⟨_, rfl, rfl⟩, ⟨_, rfl, rfl⟩⟩

theorem witness_OnlyEiDiRetiWriteIme :
    (∃ t, exec .ei start = .next t) ∧ (∃ t, exec .reti start = .next t) ∧ (∃ t, exec .di start = .next t) ∧
    ∃ t, exec .nop start = .next t :=
  ⟨⟨_, rfl⟩, ⟨_, rfl⟩, ⟨_, rfl⟩, ⟨_, rfl⟩⟩

theorem witness_SavedSetIsNeverRead : ∃ t, exec .popAf start = .next t := ⟨_, rfl⟩

theorem witness_OnlyRemovedOpcodesAreFatal :
    (∀ c : Byte, Instr.nop ≠ .illegal c) ∧ (startWith [0xFD] id).mode = .running ∧
    (startWith [0xFD] id).ime = false ∧ ((startWith [0xFD] id).io.intEnable &&& (startWith [0xFD] id).io.intFlag) &&& 0x1F = 0 ∧
    (startWith [0xFD] id).memRead (startWith [0xFD] id).pc ∈
      ([0xD3, 0xDB, 0xDD, 0xE3, 0xE4, 0xEB, 0xEC, 0xED, 0xF4, 0xFC, 0xFD] : List Byte) :=
  ⟨fun _ h => (nomatch h), by decide, by decide, by decide, by decide⟩

/-- A conditional taken, one not taken, and a form with no taken cost. -/
theorem witness_EveryInstructionChargesItsDeclaredCost :
    (∀ c : Byte, Instr.jrNzN 0x05 ≠ .illegal c) ∧ declaredCost (.jrNzN 0x05) start = 12 ∧
    declaredCost (.jrZN 0x05) start = 8 ∧ declaredCost .bit0IndHl start = 12 ∧ declaredCost (.callNn 0x0200) start = 24 :=
  ⟨fun _ h => (nomatch h), by decide, by decide, by decide, by decide⟩

theorem witness_EveryStepKeepsTheInvariant : 
    interrupted.Inv ∧ (startWith [0x00] id).Inv ∧ (∃ t, step interrupted = .next t) ∧ ∃ t, step (startWith [0x00] id) = .next t :=
  ⟨by decide, by decide, ⟨_, rfl⟩, ⟨_, rfl⟩⟩

/-- The divider wraps; the counter is stopped in one state and overflows in the other (R324, R325). -/
theorem witness_TimerAdvanceFollowsTheLoops :
    (let s : State := { start with divAcc := 252, io := { start.io with div := 0xFF } };
      s.divAcc + 4 ≤ 256 ∧ s.io.tac.getLsbD 2 = false ∧ (s.timerAdvance 4).io.div = 0x00) ∧
    (let s : State := { start with timaAcc := 12, io := { start.io with tac := 0x05, tima := 0xFF, tma := 0xF0 } };
      s.io.tac.getLsbD 2 = true ∧ s.timaAcc + 4 ≤ 16 ∧ (s.timerAdvance 4).io.tima = 0xF0) := by
  decide

theorem witness_HostActionsBetweenSteps :
    start.Inv ∧ (start.drive (.requestInterrupt .joypadPress)).io.intFlag = 0x10 ∧ HwReg.stat ≠ ViewReg.ly.toHwReg := by
  decide

/-- An image of two bytes and one that fills the region. -/
theorem witness_LoadImageSeedsRom :
    ([0x3E, 0x05] : List Byte).length ≤ 0x8000 ∧ (List.replicate 0x8000 (0x00 : Byte)).length ≤ 0x8000 ∧
    (start.loadImage [0x3E, 0x05]).romByte 1 = 0x05 ∧ start.Inv :=
  ⟨by decide, by rw [List.length_replicate], by decide, by decide⟩

theorem witness_AccumulatorArithmetic :
    RegName.a ∈ ([.a, .f] : List RegName) ∧ ¬RegName.a ∈ ([.f] : List RegName) := by
  decide

/-- A store of a byte: an address and a register that it does not touch, and a prescaler and an overlay that it keeps. -/
theorem witness_StoreByteToMemory :
    (∀ c ∈ ([(0xC100, 0x42)] : List (Word × Byte)), ¬Touched c.1 0xC101) ∧
    (∀ c ∈ ([(0xC100, 0x42)] : List (Word × Byte)), c.1 ≠ HwReg.tima.addr) ∧
    (∀ c ∈ ([(0xC100, 0x42)] : List (Word × Byte)), c.1 ≠ HwReg.div.addr) ∧
    ∀ c ∈ ([(0xC100, 0x42)] : List (Word × Byte)), c.1 ≠ HwReg.boot.addr := by
  simp [Touched, HwReg.addr]

theorem witness_PopLoadsThePair : Stk16.af = .af ∧ Stk16.bc ≠ .af := by decide

theorem witness_DecimalAdjust :
    start.flags.n = false ∧ (start.setF 0x40).flags.n = true ∧ (daaEval 0x7D start.flags).value = 0x83 := by
  decide

/-- 45 + 38 = 83, and 83 - 45 = 38, in packed BCD. -/
theorem witness_DecimalAdjustMakesBcd :
    IsBcd (start.setR8 .a 0x45).getA ∧ IsBcd 0x38 ∧ bcdValue 0x45 + bcdValue 0x38 = 83 := by
  unfold IsBcd
  decide

theorem witness_AccumulatorRotates :
    (Instr.rra, RotOp.rr, (0x1F : Byte)) ∈
      ([(.rlca, .rlc, 0x07), (.rrca, .rrc, 0x0F), (.rla, .rl, 0x17), (.rra, .rr, 0x1F)] : List (Instr × RotOp × Byte)) := by
  decide

/-- Each condition holds in one state and fails in the other. -/
theorem witness_CallsAndRestarts :
    (∀ cc ∈ [Cond.nz, .nc], start.cond cc = true ∧ (start.setF 0xF0).cond cc = false) ∧
    ∀ cc ∈ [Cond.z, .c], start.cond cc = false ∧ (start.setF 0xF0).cond cc = true := by
  decide

theorem witness_Returns : start.cond .nz = true ∧ start.cond .z = false := by decide

end Sys2Proof.Tests
end

section
/-! PROOFS. A step is an interrupt entry or an instruction, then the timer advance: what all three keep, a step keeps. The open
parameters, `ROM` and `BOOT_ROM` among them, are kept so (00_scope.md R4, 10_state.md R42, 20_memory.md R64). -/
namespace Sys2Proof.Machine

/-- Once for all: what the updates, the interrupt entry and the end of a step keep, a step keeps. -/
theorem KeptByUpdates.step {R : State → Prop} (h : KeptByUpdates R) (hentry : ∀ t i, R t → R (t.interruptEntry i))
    (hend : ∀ s t : State, R t → R (s.endStep t)) {s t : State} (hs : R s) (e : Machine.step s = .next t) : R t := by
  obtain ⟨_, ⟨i, _, rfl⟩ | ⟨_, u, he, rfl⟩⟩ := step_cases e
  · exact hend s _ (h.charge _ _ (hentry s i hs))
  · exact hend s u (h.exec s.fetchInstr.1 (h.setPc s _ hs) he)

@[simp] theorem State.interruptEntry_params (s : State) (i : IntSource) : (s.interruptEntry i).params = s.params := by
  simp [State.interruptEntry]

@[simp] theorem State.endStep_params (s t : State) : (s.endStep t).params = t.params := by
  obtain ⟨d, k, io, he, _⟩ := State.endStep_eq s t
  rw [he]

/-- No update of an instruction writes the arguments. -/
theorem keptByUpdates_params (p : Params) : KeptByUpdates (fun t => t.params = p) where
  setR8 t dst v h := (t.setR8_params dst v).trans h
  setFlags t f h := (t.setFlags_params f).trans h
  setR16 t q w h := (t.setR16_params q w).trans h
  setStk16 t q w h := (t.setStk16_params q w).trans h
  charge t n h := (t.charge_params n).trans h
  memWrite t a v h := (t.memWrite_params a v).trans h
  setPc _ _ h := h
  setMode _ _ h := h
  setIme _ _ h := h

/-- A step is handed the arguments and hands them on (R4). -/
theorem step_params {s t : State} (h : step s = .next t) : t.params = s.params :=
  (keptByUpdates_params s.params).step (fun t i ht => (t.interruptEntry_params i).trans ht)
    (fun s t ht => (s.endStep_params t).trans ht) rfl h

/-- Below 0x8000 an address not under the overlay lies in `ROM` (R61). -/
theorem decodeAddr_rom_of_not_overlaid {b : Bool} {a : Word} (ha : a.toNat ≤ 0x7FFF) (ho : b = false ∨ 0x00FF < a.toNat) :
    decodeAddr b a = .rom := by
  rcases Nat.lt_or_ge 0x00FF a.toNat with h | h
  · exact decodeAddr_rom h ha
  · obtain rfl : b = false := ho.resolve_right (Nat.not_lt.mpr h)
    exact decodeAddr_low h

theorem State.memRead_rom (s : State) {a : Word} (ha : a.toNat ≤ 0x7FFF) (ho : s.bootEnabled = false ∨ 0x00FF < a.toNat) :
    s.memRead a = s.romByte a.toNat := by
  rw [State.memRead, decodeAddr_rom_of_not_overlaid ha ho]

/-- Settles O14: the bytes of both images are read from the arguments, which every part of a step keeps. -/
theorem romAndParametersNeverChange : Obligations.RomAndParametersNeverChange := by
  refine ⟨fun s a ha ho => s.memRead_rom ha ho, fun s t h => ?_⟩
  have hp : t.params = s.params := step_params h
  exact ⟨hp, fun k => ⟨by rw [State.romByte, State.romByte, hp], by rw [State.bootByte, State.bootByte, hp]⟩⟩

end Sys2Proof.Machine
end

section
/-! PROOFS. The machine's invariant: reset meets it (10_state.md R44), and what an instruction, an interrupt entry and the end of a
step keep, a step keeps (R22, R40, R42). -/
namespace Sys2Proof.Machine

theorem keptByUpdates_inv : KeptByUpdates State.Inv where
  setR8 := State.setR8_inv
  setFlags := State.setFlags_inv
  setR16 := State.setR16_inv
  setStk16 := State.setStk16_inv
  charge := State.charge_inv
  memWrite := State.memWrite_inv
  setPc _ _ h := h
  setMode _ _ h := h
  setIme _ _ h := h

/-- Settles O30: every update of an instruction, the interrupt entry and the end of a step keep the invariant. -/
theorem everyStepKeepsTheInvariant : Obligations.EveryStepKeepsTheInvariant :=
  fun _ _ hs h => keptByUpdates_inv.step State.interruptEntry_inv State.endStep_inv hs h

theorem Memory.wf_nil : Memory.wf [] := ⟨.nil, fun _ hc => absurd hc List.not_mem_nil⟩

/-- Settles O5: the memories at reset list no byte, the cell of `F` and the prescalers are zero, and nothing is saved. -/
theorem resetMeetsInvariant : Obligations.ResetMeetsInvariant := by
  have noCell {p : Host.Cell → Prop} : ∀ c ∈ ([] : Memory), p c := fun _ hc => absurd hc List.not_mem_nil
  refine ⟨Memory.wf_nil, ⟨Memory.wf_nil, Memory.wf_nil, noCell, noCell⟩, noCell, ⟨rfl, fun r hr => ?saved⟩, ?prescalers⟩
  case saved => exact absurd hr (Option.not_mem_none r)
  case prescalers => exact ⟨Nat.zero_lt_succ 255, Nat.zero_lt_succ 1023⟩

end Sys2Proof.Machine
end

section
/-! PROOFS. Registers and flags: what each read gives after each write (10_state.md R21 to R23, R26). -/
namespace Sys2Proof.Machine

theorem State.getR8_setR8 (s : State) (r q : Reg8) (v : Byte) : (s.setR8 r v).getR8 q = if q = r then v else s.getR8 q := by
  split
  case isTrue h => rw [h, State.setR8_getR8_same]
  case isFalse h => exact State.setR8_getR8_other s h v

/-- Settles O1: a read after a write by register; the halves of the cells are the definitions of the two accesses. -/
theorem byteRegistersAreHalvesOfCells : Obligations.ByteRegistersAreHalvesOfCells := fun s r q v =>
  ⟨⟨s.getR8_setR8 r q v, s.setR8_getF r v⟩, ⟨s.setF_getR8 q v, s.setF_getF v⟩,
    ⟨rfl, rfl, rfl, rfl, rfl, rfl, rfl⟩, ⟨rfl, rfl, rfl, rfl, rfl, rfl, rfl, rfl⟩⟩

theorem Flags.pack_toNat (f : Flags) :
    f.pack.toNat = 128 * f.z.toNat + 64 * f.n.toNat + 32 * f.h.toNat + 16 * f.c.toNat := by
  obtain ⟨z, n, h, c⟩ := f
  cases z <;> cases n <;> cases h <;> cases c <;> rfl

theorem Flags.pack_ofByte : ∀ v : Byte, (Flags.ofByte (v &&& 0xF0)).pack = v &&& 0xF0 := by decide

/-- `F` as it reads is its four flags (R26). -/
theorem State.flags_pack (s : State) : s.flags.pack = s.getF := Flags.pack_ofByte (lowByte s.af)

theorem State.getF_toNat (s : State) :
    s.getF.toNat = 128 * s.flags.z.toNat + 64 * s.flags.n.toNat + 32 * s.flags.h.toNat + 16 * s.flags.c.toNat := by
  rw [← Flags.pack_toNat, State.flags_pack]

theorem State.getF_lowNibble (s : State) : s.getF &&& 0x0F = 0 := by
  rw [State.getF, BitVec.and_assoc]
  exact BitVec.and_zero

/-- Settles O2: a read of `F` is masked, and it is the four flags packed, those read and those written. -/
theorem flagByteIsMaskedAndHoldsFourFlags : Obligations.FlagByteIsMaskedAndHoldsFourFlags := fun s v f =>
  ⟨s.setF_getF v, s.getF_lowNibble, by rw [State.setFlags_getF, Flags.pack_toNat], s.setFlags_flags f, s.getF_toNat⟩

theorem State.getR16_setR16 (s : State) (p q : Reg16) (w : Word) : (s.setR16 p w).getR16 q = if q = p then w else s.getR16 q := by
  split
  case isTrue h => rw [h, State.setR16_getR16_same]
  case isFalse h => exact State.setR16_getR16_other s h w

theorem State.getStk16_setStk16 (s : State) (p q : Stk16) (w : Word) :
    (s.setStk16 p w).getStk16 q = if q = p then (if p = .af then w &&& 0xFFF0 else w) else s.getStk16 q := by
  split
  case isTrue h => rw [h, State.setStk16_getStk16_same]
  case isFalse h => exact State.setStk16_getStk16_other s h w

theorem State.getStk16_af_toNat (s : State) : (s.getStk16 .af).toNat = s.getA.toNat * 256 + s.getF.toNat :=
  joinBytes_toNat s.getF s.getA

/-- Settles O3: a read after a write by pair; the low nibble of `AF` is that of `F`, a sum of multiples of 16. -/
theorem pairsReadBackAsWritten : Obligations.PairsReadBackAsWritten := by
  intro s w p p' q q'
  have hlow : (s.getStk16 .af).toNat % 16 = 0 := by
    rw [s.getStk16_af_toNat, s.getF_toNat]
    omega
  exact ⟨s.getR16_setR16 p p' w, s.getStk16_setStk16 q q' w, s.getStk16_af_toNat, hlow⟩

end Sys2Proof.Machine
end

section
/-! PROOFS. The boot overlay (10_state.md R39): a write of `BOOT` turns it off, and no part of a step turns it on. -/
namespace Sys2Proof.Machine

@[simp] theorem State.endStep_bootEnabled (s t : State) : (s.endStep t).bootEnabled = t.bootEnabled := by
  obtain ⟨d, k, io, he, _⟩ := State.endStep_eq s t
  rw [he]

/-- No update of an instruction turns the overlay on. -/
theorem keptByUpdates_overlayOff : KeptByUpdates (fun t => t.bootEnabled = false) where
  setR8 t dst v h := (t.setR8_bootEnabled dst v).trans h
  setFlags t f h := (t.setFlags_bootEnabled f).trans h
  setR16 t q w h := (t.setR16_bootEnabled q w).trans h
  setStk16 t q w h := (t.setStk16_bootEnabled q w).trans h
  charge t n h := (t.charge_bootEnabled n).trans h
  memWrite := State.memWrite_bootEnabled_mono
  setPc _ _ h := h
  setMode _ _ h := h
  setIme _ _ h := h

theorem State.interruptEntry_overlayOff (s : State) (i : IntSource) (h : s.bootEnabled = false) :
    (s.interruptEntry i).bootEnabled = false :=
  keptByUpdates_overlayOff.push16 _ _ h

theorem step_overlayOff {s t : State} (h : step s = .next t) (hs : s.bootEnabled = false) : t.bootEnabled = false :=
  keptByUpdates_overlayOff.step State.interruptEntry_overlayOff (fun s t ht => (s.endStep_bootEnabled t).trans ht) hs h

theorem State.memWrite_boot (s : State) (v : Byte) :
    s.memWrite HwReg.boot.addr v = { s with io := s.io.set .boot v, bootEnabled := false } :=
  s.memWrite_register (by decide) v

/-- Settles O15: what a write of `BOOT` leaves, and the induction over the parts of a step. -/
theorem overlayIsNeverEnabledAgain : Obligations.OverlayIsNeverEnabledAgain := by
  refine ⟨rfl, State.reset.memRead_register .boot, fun s v => ?write, fun _ _ => step_overlayOff⟩
  case write =>
    have hw : s.memWrite 0xFF50 v = { s with io := s.io.set .boot v, bootEnabled := false } := s.memWrite_boot v
    rw [hw]
    exact ⟨rfl, State.memRead_register _ .boot⟩

end Sys2Proof.Machine
end

section
/-! PROOFS. `IME` and `mode` (10_state.md R28, R29): what an instruction can do to them, said once. -/
namespace Sys2Proof.Machine

/-- `i` leaves `IME` from `s` to `t`, or it is `EI` or `RETI` and sets it, or `DI` and clears it. -/
def ImeEffect (i : Instr) (s t : State) : Prop :=
  t.ime = s.ime ∨ ((i = .ei ∨ i = .reti) ∧ t.ime = true) ∨ (i = .di ∧ t.ime = false)

/-- `i` leaves `mode` from `s` to `t`, or it is `HALT` or `STOP` and leaves the core in the state it names. -/
def ModeEffect (i : Instr) (s t : State) : Prop :=
  t.mode = s.mode ∨ (t.mode = .halted ∧ i = .halt) ∨ (t.mode = .stopped ∧ ∃ n : Byte, i = .stop n)

/-- If the outcome is a next state, `i` had no other effect on `IME` and `mode` than its own. -/
def ControlEffect (i : Instr) (s : State) (r : Result) : Prop := ∀ t, r = .next t → ImeEffect i s t ∧ ModeEffect i s t

theorem ControlEffect.next {i : Instr} {s u : State} (hi : ImeEffect i s u) (hm : ModeEffect i s u) :
    ControlEffect i s (.next u) := fun _ e => ofNext (R := fun t => ImeEffect i s t ∧ ModeEffect i s t) e ⟨hi, hm⟩

/-- An outcome that leaves both. -/
theorem ControlEffect.kept {i : Instr} {s u : State} (hi : u.ime = s.ime) (hm : u.mode = s.mode) : ControlEffect i s (.next u) :=
  .next (.inl hi) (.inl hm)

@[simp] theorem State.writeOperand_ime (s : State) (o : Operand8) (v : Byte) : (s.writeOperand o v).ime = s.ime := by
  cases o with
  | reg r => exact s.setR8_ime r v
  | hlInd => exact s.memWrite_ime s.hl v

@[simp] theorem State.writeOperand_mode (s : State) (o : Operand8) (v : Byte) : (s.writeOperand o v).mode = s.mode := by
  cases o with
  | reg r => exact s.setR8_mode r v
  | hlInd => exact s.memWrite_mode s.hl v

/-- Once for all: of the instructions, those named in `ImeEffect` and `ModeEffect` alone write `IME` or `mode`. -/
theorem exec_control (i : Instr) (s : State) : ControlEffect i s (exec i s) := by
  apply exec_cases (P := fun i r => ControlEffect i s r) s
  case loadReg | storeByte | loadStep | storeStep | loadPair | spOffset | storeSp | pushPair | addHl | addPair | adjustAcc
      | setFlags | rotAcc | bitOperand | callTo | incOperand | decOperand | rotOperand | resOperand | setOperand =>
    intros
    exact .kept (by simp) (by simp)
  case popPair => exact fun _ _ => .kept (by simp [State.pop16]) (by simp [State.pop16])
  case aluAcc =>
    intro _ op _ _
    cases op <;> exact .kept (by simp) (by simp)
  case jumpTo => exact fun _ _ _ => .kept rfl rfl
  case returnCharged => exact fun _ _ => .kept rfl rfl
  case jumpIf =>
    intros
    unfold jumpIf
    split <;> exact .kept rfl rfl
  case callIf =>
    intros
    unfold callIf
    split <;> exact .kept (by simp) (by simp)
  case returnIf =>
    intros
    unfold returnIf
    split <;> exact .kept rfl rfl
  case nop => exact .kept rfl rfl
  case halt => exact .next (.inl rfl) (.inr (.inl ⟨rfl, rfl⟩))
  case stop => exact fun n => .next (.inl rfl) (.inr (.inr ⟨rfl, n, rfl⟩))
  case reti => exact .next (.inr (.inl ⟨.inr rfl, rfl⟩)) (.inl rfl)
  case ei => exact .next (.inr (.inl ⟨.inl rfl, rfl⟩)) (.inl rfl)
  case di => exact .next (.inr (.inr ⟨rfl, rfl⟩)) (.inl rfl)
  case illegal => exact fun _ _ e => nomatch e

@[simp] theorem State.endStep_mode (s t : State) : (s.endStep t).mode = t.mode := by
  obtain ⟨d, k, io, he, _⟩ := State.endStep_eq s t
  rw [he]

@[simp] theorem State.interruptEntry_mode (s : State) (i : IntSource) : (s.interruptEntry i).mode = s.mode := by
  simp [State.interruptEntry]

/-- A core that is not Running has no step (R331, log 5). -/
theorem step_of_not_running {s : State} (h : s.mode ≠ .running) : step s = .fault (.noStep s.mode) := by
  cases hm : s.mode with
  | running => exact absurd hm h
  | halted => simp [step, State.beginStep, hm]
  | stopped => simp [step, State.beginStep, hm]

/-- Settles O25: an interrupt entry and the end of a step leave `mode`, so the effect is the instruction's. -/
theorem onlyHaltAndStopLeaveRunning : Obligations.OnlyHaltAndStopLeaveRunning := by
  refine ⟨fun s => step_of_not_running, fun s t h => ?step⟩
  case step =>
    obtain ⟨hrun, ⟨i, _, rfl⟩ | ⟨_, u, he, rfl⟩⟩ := step_cases h
    · exact ⟨hrun, .inl (by simp [hrun])⟩
    · obtain ⟨_, hmode⟩ := exec_control s.fetchInstr.1 s.fetchInstr.2 u he
      rw [State.endStep_mode]
      exact ⟨hrun, hmode.imp_left fun hk => hk.trans hrun⟩

/-- Settles O26: the meanings of `EI`, `RETI` and `DI`, and the one effect on `IME` that every other instruction has. -/
theorem onlyEiDiRetiWriteIme : Obligations.OnlyEiDiRetiWriteIme := by
  refine fun i s t h => ⟨?sets, ?clears, ?keeps⟩
  case sets =>
    rintro (rfl | rfl)
    · exact ofNext (R := fun u => u.ime = true) h rfl
    · exact ofNext (R := fun u => u.ime = true) h rfl
  case clears =>
    rintro rfl
    exact ofNext (R := fun u => u.ime = false) h rfl
  case keeps =>
    intro hei hreti hdi
    obtain ⟨hk | ⟨hi | hi, _⟩ | ⟨hi, _⟩, _⟩ := exec_control i s t h
    · exact hk
    · exact absurd hi hei
    · exact absurd hi hreti
    · exact absurd hi hdi

end Sys2Proof.Machine
end

section
/-! PROOFS. The saved register set (10_state.md R30): no instruction writes it or depends on it. -/
namespace Sys2Proof.Machine

/-- Every instruction but a removed opcode, whose fault carries the whole state (log 6): replacing the saved set before it is
replacing it after. -/
theorem exec_withSaved (x : Option Snapshot) (s : State) {i : Instr} (hi : ∀ c, i ≠ .illegal c) :
    exec i (withSaved x s) = mapNext (withSaved x) (exec i s) := by
  cases i with
  | ldBN _ | ldCN _ | ldDN _ | ldEN _ | ldHN _ | ldLN _ | ldAN _ | ldhAIndN _ | ldAIndNn _ | ldAIndBc | ldAIndDe | ldBB | ldBC | ldBD
  | ldBE | ldBH | ldBL | ldBIndHl | ldBA | ldCB | ldCC | ldCD | ldCE | ldCH | ldCL | ldCIndHl | ldCA | ldDB | ldDC | ldDD
  | ldDE | ldDH | ldDL | ldDIndHl | ldDA | ldEB | ldEC | ldED | ldEE | ldEH | ldEL | ldEIndHl | ldEA | ldHB | ldHC | ldHD
  | ldHE | ldHH | ldHL | ldHIndHl | ldHA | ldLB | ldLC | ldLD | ldLE | ldLH | ldLL | ldLIndHl | ldLA | ldAB | ldAC | ldAD
  | ldAE | ldAH | ldAL | ldAIndHl | ldAA | ldAIndC =>
    exact loadReg_withSaved x s _ _ _
  | ldIndHlN _ | ldhIndNA _ | ldIndNnA _ | ldIndBcA | ldIndDeA | ldIndHlB | ldIndHlC | ldIndHlD | ldIndHlE | ldIndHlH
  | ldIndHlL | ldIndHlA | ldIndCA =>
    exact storeByte_withSaved x s _ _ _
  | ldBcNn _ | ldDeNn _ | ldHlNn _ | ldSpNn _ | ldSpHl => exact loadPair_withSaved x s _ _ _
  | ldIndNnSp _ => exact storeSp_withSaved x s _
  | ldHlSpN _ | addSpN _ => exact spOffset_withSaved x s _ _ _
  | addAN _ | addAB | addAC | addAD | addAE | addAH | addAL | addAIndHl | addAA => exact aluAcc_withSaved x s .add _ _
  | adcAN _ | adcAB | adcAC | adcAD | adcAE | adcAH | adcAL | adcAIndHl | adcAA => exact aluAcc_withSaved x s .adc _ _
  | subAN _ | subAB | subAC | subAD | subAE | subAH | subAL | subAIndHl | subAA => exact aluAcc_withSaved x s .sub _ _
  | sbcAN _ | sbcAB | sbcAC | sbcAD | sbcAE | sbcAH | sbcAL | sbcAIndHl | sbcAA => exact aluAcc_withSaved x s .sbc _ _
  | andAN _ | andAB | andAC | andAD | andAE | andAH | andAL | andAIndHl | andAA => exact aluAcc_withSaved x s .and _ _
  | xorAN _ | xorAB | xorAC | xorAD | xorAE | xorAH | xorAL | xorAIndHl | xorAA => exact aluAcc_withSaved x s .xor _ _
  | orAN _ | orAB | orAC | orAD | orAE | orAH | orAL | orAIndHl | orAA => exact aluAcc_withSaved x s .or _ _
  | cpAN _ | cpAB | cpAC | cpAD | cpAE | cpAH | cpAL | cpAIndHl | cpAA => exact aluAcc_withSaved x s .cp _ _
  | jrN _ | jpNn _ | jpHl => exact jumpTo_withSaved x s _ _
  | jrNzN _ | jrZN _ | jrNcN _ | jrCN _ | jpNzNn _ | jpZNn _ | jpNcNn _ | jpCNn _ => exact jumpIf_withSaved x s _ _ _ _
  | callNzNn _ | callZNn _ | callNcNn _ | callCNn _ => exact callIf_withSaved x s _ _
  | callNn _ | rst00 | rst08 | rst10 | rst18 | rst20 | rst28 | rst30 | rst38 => exact callTo_withSaved x s _ _
  | ldIndHlIncA | ldIndHlDecA => exact storeStep_withSaved x s _
  | ldAIndHlInc | ldAIndHlDec => exact loadStep_withSaved x s _
  | popBc | popDe | popHl | popAf => exact popPair_withSaved x s _
  | pushBc | pushDe | pushHl | pushAf => exact pushPair_withSaved x s _
  | incB | incC | incD | incE | incH | incL | incIndHl | incA => exact incOperand_withSaved x s _
  | decB | decC | decD | decE | decH | decL | decIndHl | decA => exact decOperand_withSaved x s _
  | daa | cpl => exact adjustAcc_withSaved x s _
  | incBc | decBc | incDe | decDe | incHl | decHl | incSp | decSp => exact addPair_withSaved x s _ _
  | addHlBc | addHlDe | addHlHl | addHlSp => exact addHl_withSaved x s _
  | rlca | rrca | rla | rra => exact rotAcc_withSaved x s _
  | rlcB | rlcC | rlcD | rlcE | rlcH | rlcL | rlcIndHl | rlcA | rrcB | rrcC | rrcD | rrcE | rrcH | rrcL | rrcIndHl | rrcA
  | rlB | rlC | rlD | rlE | rlH | rlL | rlIndHl | rlA | rrB | rrC | rrD | rrE | rrH | rrL | rrIndHl | rrA | slaB | slaC
  | slaD | slaE | slaH | slaL | slaIndHl | slaA | sraB | sraC | sraD | sraE | sraH | sraL | sraIndHl | sraA | swapB | swapC
  | swapD | swapE | swapH | swapL | swapIndHl | swapA | srlB | srlC | srlD | srlE | srlH | srlL | srlIndHl | srlA =>
    exact rotOperand_withSaved x s _ _
  | bit0B | bit0C | bit0D | bit0E | bit0H | bit0L | bit0IndHl | bit0A | bit1B | bit1C | bit1D | bit1E | bit1H | bit1L
  | bit1IndHl | bit1A | bit2B | bit2C | bit2D | bit2E | bit2H | bit2L | bit2IndHl | bit2A | bit3B | bit3C | bit3D | bit3E
  | bit3H | bit3L | bit3IndHl | bit3A | bit4B | bit4C | bit4D | bit4E | bit4H | bit4L | bit4IndHl | bit4A | bit5B | bit5C
  | bit5D | bit5E | bit5H | bit5L | bit5IndHl | bit5A | bit6B | bit6C | bit6D | bit6E | bit6H | bit6L | bit6IndHl | bit6A
  | bit7B | bit7C | bit7D | bit7E | bit7H | bit7L | bit7IndHl | bit7A =>
    exact bitOperand_withSaved x s _ _
  | res0B | res0C | res0D | res0E | res0H | res0L | res0IndHl | res0A | res1B | res1C | res1D | res1E | res1H | res1L
  | res1IndHl | res1A | res2B | res2C | res2D | res2E | res2H | res2L | res2IndHl | res2A | res3B | res3C | res3D | res3E
  | res3H | res3L | res3IndHl | res3A | res4B | res4C | res4D | res4E | res4H | res4L | res4IndHl | res4A | res5B | res5C
  | res5D | res5E | res5H | res5L | res5IndHl | res5A | res6B | res6C | res6D | res6E | res6H | res6L | res6IndHl | res6A
  | res7B | res7C | res7D | res7E | res7H | res7L | res7IndHl | res7A =>
    exact resOperand_withSaved x s _ _
  | set0B | set0C | set0D | set0E | set0H | set0L | set0IndHl | set0A | set1B | set1C | set1D | set1E | set1H | set1L
  | set1IndHl | set1A | set2B | set2C | set2D | set2E | set2H | set2L | set2IndHl | set2A | set3B | set3C | set3D | set3E
  | set3H | set3L | set3IndHl | set3A | set4B | set4C | set4D | set4E | set4H | set4L | set4IndHl | set4A | set5B | set5C
  | set5D | set5E | set5H | set5L | set5IndHl | set5A | set6B | set6C | set6D | set6E | set6H | set6L | set6IndHl | set6A
  | set7B | set7C | set7D | set7E | set7H | set7L | set7IndHl | set7A =>
    exact setOperand_withSaved x s _ _
  | retNz | retZ | retNc | retC => exact returnIf_withSaved x s _
  | ret => exact returnCharged_withSaved x s _
  | stop _ | scf | ccf | reti | nop | halt | di | ei => rfl
  | illegal c => exact absurd rfl (hi c)
  | prefixCb xop =>
    show execPrefixCb xop _ = mapNext _ (execPrefixCb xop s)
    unfold execPrefixCb
    generalize fieldX xop = k
    match k with
    | 0 => exact rotOperand_withSaved x s _ _
    | 1 => exact bitOperand_withSaved x s _ _
    | 2 => exact resOperand_withSaved x s _ _
    | 3 => exact setOperand_withSaved x s _ _

theorem keptByUpdates_saved (x : Option Snapshot) : KeptByUpdates (fun t => t.saved = x) where
  setR8 t dst v h := (t.setR8_saved dst v).trans h
  setFlags t f h := (t.setFlags_saved f).trans h
  setR16 t q w h := (t.setR16_saved q w).trans h
  setStk16 t q w h := (t.setStk16_saved q w).trans h
  charge t n h := (t.charge_saved n).trans h
  memWrite t a v h := (t.memWrite_saved a v).trans h
  setPc _ _ h := h
  setMode _ _ h := h
  setIme _ _ h := h

/-- Settles O27: no update writes the saved set, and replacing it before an instruction that completes is replacing it after. -/
theorem savedSetIsNeverRead : Obligations.SavedSetIsNeverRead := by
  intro i s t x h
  have hi : ∀ c, i ≠ .illegal c := by
    rintro c rfl
    exact nomatch h
  have hx : exec i (withSaved x s) = mapNext (withSaved x) (exec i s) := exec_withSaved x s hi
  rw [h] at hx
  exact ⟨(keptByUpdates_saved s.saved).exec i rfl h, hx⟩

end Sys2Proof.Machine
end

section
/-! PROOFS. The state after reset (10_state.md R44), and the step as fetch, decode and dispatch (60_exceptions.md R317, R327). -/
namespace Sys2Proof.Machine

/-- Settles O4: the fields are the definition's; a byte of each memory is read from a store that lists nothing. -/
theorem resetLeavesTheStatedValues : Obligations.ResetLeavesTheStatedValues := by
  refine ⟨fun p m => ?fields, ⟨_, _, rfl⟩, fun a => ⟨State.memRead_plain State.reset, fun ha => ?boot, fun h1 h2 => ?rom⟩⟩
  case fields =>
    have hio : ∀ r : HwReg, HwRegs.reset.get r = 0x00 := fun r => by cases r <;> rfl
    have hflags : Flags.ofByte (lowByte 0x0000 &&& 0xF0) = ⟨false, false, false, false⟩ := by decide
    exact ⟨⟨rfl, rfl, rfl, rfl, rfl, rfl⟩, hflags, ⟨rfl, rfl, rfl, rfl, rfl⟩, hio, rfl, rfl, rfl, rfl⟩
  case boot =>
    rw [State.memRead, decodeAddr_low ha]
    rfl
  case rom => exact State.memRead_rom State.reset h2 (.inr h1)

/-- `GetIsr` finds no source exactly when bits 4:0 are clear (R316). -/
theorem getIsr_eq_none_iff : ∀ m : Byte, getIsr m = none ↔ m &&& 0x1F = 0 := by decide

theorem encode_decodeExtended_length : ∀ xop : Byte, (encode (decodeExtended xop)).length = 2 := by decide

/-- An instruction's bytes are as many as its first byte says (R111). After 0xCB it is an extended entry; for every other first
byte the entry, and so its length, does not depend on the bytes after it. -/
theorem encode_decodeBytes_length (b0 b1 b2 : Byte) : (encode (decodeBytes b0 b1 b2)).length = instrLength b0 := by
  have primary : ∀ b : Byte, b ≠ 0xCB → (encode (decodeBytes b b1 b2)).length = instrLength b := of_decide_eq_true rfl
  by_cases h : b0 = 0xCB
  · subst h
    exact encode_decodeExtended_length b1
  · exact primary b0 h

/-- Three bytes that decode give the instruction of the fetch. -/
theorem eq_decodeBytes_of_decode {b0 b1 b2 : Byte} {i : Instr} {rest : List Byte} (h : decode [b0, b1, b2] = .ok (i, rest)) :
    i = decodeBytes b0 b1 b2 := by
  simp only [decode] at h
  split at h
  case isTrue => cases h
  case isFalse => exact (congrArg Prod.fst (Except.ok.inj h)).symm

/-- Settles O20: no interrupt is pending, the fetch gives the decoded instruction and moves `PC` past its bytes. -/
theorem stepRunsTheDecodedInstruction : Obligations.StepRunsTheDecodedInstruction := by
  intro s i rest hm hp hd u
  have hnone : s.pendingInterrupt = none := s.pendingInterrupt_eq_none_iff.mpr (hp.imp_right (getIsr_eq_none_iff _).mpr)
  have hi : i = s.fetchInstr.1 := eq_decodeBytes_of_decode hd
  have hu : u = s.fetchInstr.2 := by
    have hlen : (encode i).length = instrLength (s.memRead s.pc) := hi ▸ encode_decodeBytes_length _ _ _
    rw [fetchInstr_state, ← hlen]
  rw [step_execute hm hnone, ← hi, ← hu]
  cases exec i u <;> rfl

end Sys2Proof.Machine
end

section
/-! PROOFS. The address decoder (20_memory.md R61) and the accesses that reach no writable store: the overlay, `ROM` and the unmapped
addresses (R62 to R65, R70, R71). -/
namespace Sys2Proof.Machine

theorem hwRegAt_eq_none {a : Word} (h : ∀ r : HwReg, a ≠ r.addr) : hwRegAt a = none := by
  cases hr : hwRegAt a with
  | none => rfl
  | some r => exact absurd (hwRegAt_some hr) (h r)

theorem decodeAddr_unmapped (b : Bool) {a : Word} (h1 : 0xFF00 ≤ a.toNat) (h2 : a.toNat ≤ 0xFF7F) (hr : ∀ r : HwReg, a ≠ r.addr) :
    decodeAddr b a = .unmapped := by
  rw [decodeAddr_high h1, hwRegAt_eq_none hr]
  exact if_neg (by omega)

/-- Settles O6: each region of the decoder, and the bank's table by evaluation. -/
theorem addressDecoderRegions : Obligations.AddressDecoderRegions := by
  refine ⟨fun b a => ⟨?overlay, ?romBelow, decodeAddr_rom, decodeAddr_ram, decodeAddr_oam, ?register, decodeAddr_hram,
    decodeAddr_unmapped b⟩, rfl, fun r => by cases r <;> decide⟩
  case overlay =>
    rintro rfl ha
    exact decodeAddr_low ha
  case romBelow =>
    rintro rfl ha
    exact decodeAddr_low ha
  case register =>
    rintro r rfl
    exact decodeAddr_register b r

theorem State.memRead_overlay (s : State) {a : Word} (hb : s.bootEnabled = true) (ha : a.toNat ≤ 0x00FF) :
    s.memRead a = s.bootByte a.toNat := by
  rw [State.memRead, decodeAddr_low ha, hb]
  rfl

theorem State.memRead_unmapped (s : State) {a : Word} (h1 : 0xFF00 ≤ a.toNat) (h2 : a.toNat ≤ 0xFF7F)
    (hr : ∀ r : HwReg, a ≠ r.addr) : s.memRead a = s.params.defaultRead := by
  rw [State.memRead, decodeAddr_unmapped _ h1 h2 hr]

/-- Settles O7: the reads of the overlay, of `ROM` without it, and of an unmapped address. -/
theorem overlayAndUnmappedReads : Obligations.OverlayAndUnmappedReads := fun s _ =>
  ⟨s.memRead_overlay, fun hb ha => s.memRead_rom (Nat.le_trans ha (by decide)) (.inl hb), s.memRead_unmapped⟩

/-- Below 0x8000 lie the overlay and `ROM` alone. -/
theorem decodeAddr_below_ram (b : Bool) {a : Word} (ha : a.toNat ≤ 0x7FFF) :
    decodeAddr b a = .bootOverlay ∨ decodeAddr b a = .rom := by
  rcases Nat.lt_or_ge 0x00FF a.toNat with h | h
  · exact .inr (decodeAddr_rom h ha)
  · rw [decodeAddr_low h]
    cases b
    · exact .inr rfl
    · exact .inl rfl

/-- An address that decodes to the overlay, to `ROM` or to nothing ignores a write (R63, R65, R71): it is not the DMA trigger's. -/
theorem State.memWrite_ignored (s : State) {a : Word}
    (h : (decodeAddr s.bootEnabled a = .bootOverlay ∨ decodeAddr s.bootEnabled a = .rom) ∨ decodeAddr s.bootEnabled a = .unmapped)
    (v : Byte) : s.memWrite a v = s := by
  have hdma : a ≠ HwReg.dma.addr := by
    rintro rfl
    simp [decodeAddr_register] at h
  rw [State.memWrite_noCopy s hdma, State.memWriteNoCopy]
  rcases h with (h | h) | h <;> rw [h]

/-- Settles O8: every such address decodes to the overlay, to `ROM` or to nothing. -/
theorem ignoredWritesChangeNothing : Obligations.IgnoredWritesChangeNothing := fun s _ v =>
  ⟨fun ha => s.memWrite_ignored (.inl (decodeAddr_below_ram _ ha)) v,
    fun h1 h2 hr => s.memWrite_ignored (.inr (decodeAddr_unmapped _ h1 h2 hr)) v⟩

end Sys2Proof.Machine
end

section
/-! PROOFS. Plain storage (20_memory.md R66, R67, R69) and the two byte accesses of a word (R72, R73). -/
namespace Sys2Proof.Machine

/-- A write to plain storage starts no copy and turns no overlay off: it touches its own address alone. -/
theorem PlainStore.eq_of_touched {a x : Word} (h : PlainStore a) (ht : Touched a x) : x = a := by
  rcases ht with hx | ⟨ha, _⟩ | ⟨ha, _⟩
  · exact hx
  · exact absurd ha (h.not_register .dma)
  · exact absurd ha (h.not_register .boot)

theorem State.memRead_memWrite_plain_same (s : State) {a : Word} (h : PlainStore a) (v : Byte) : (s.memWrite a v).memRead a = v := by
  rw [State.memWrite_plain s h, State.memRead_plain _ h, State.memByte_set_same]

theorem State.memRead_memWrite_plain_other (s : State) {a x : Word} (h : PlainStore a) (hx : x ≠ a) (v : Byte) :
    (s.memWrite a v).memRead x = s.memRead x :=
  s.memRead_memWrite_other v (fun ht => hx (h.eq_of_touched ht))

/-- Settles O9: the three ranges are plain storage, where a write sets one cell of memory. -/
theorem plainStorageReadsBack : Obligations.PlainStorageReadsBack := by
  intro s a v ha
  have hp : PlainStore a := by
    rcases ha with ⟨h1, h2⟩ | ⟨h1, h2⟩ | hram
    · exact .inl ⟨h1, by omega⟩
    · exact .inl ⟨by omega, h2⟩
    · exact .inr hram
  exact ⟨s.memRead_memWrite_plain_same hp v, fun x hx => s.memRead_memWrite_plain_other hp hx v, _, s.memWrite_plain hp v⟩

theorem lowByte_eq_ofNat (w : Word) : lowByte w = BitVec.ofNat 8 (w.toNat % 256) := by
  apply BitVec.eq_of_toNat_eq
  rw [lowByte_toNat, BitVec.toNat_ofNat, Nat.mod_mod]

theorem highByte_eq_ofNat (w : Word) : highByte w = BitVec.ofNat 8 (w.toNat / 256) := by
  apply BitVec.eq_of_toNat_eq
  have := w.isLt
  rw [highByte_toNat, BitVec.toNat_ofNat, Nat.mod_eq_of_lt (by omega)]

/-- A word written to two addresses of plain storage reads back: the write of its high byte leaves its low byte. -/
theorem State.memRead16_memWrite16_plain (s : State) {a : Word} (h : PlainStore a) (h' : PlainStore (a + 1)) (w : Word) :
    (s.memWrite16 a w).memRead16 a = w := by
  have hne : a ≠ a + 1 := by bv_omega
  rw [State.memRead16, State.memWrite16, State.memRead_memWrite_plain_other _ h' hne, State.memRead_memWrite_plain_same s h,
    State.memRead_memWrite_plain_same _ h', joinBytes_halves]

/-- Settles O10: a word is the join of the bytes read; those written are its halves. -/
theorem wordsAreLittleEndian : Obligations.WordsAreLittleEndian := by
  intro s a w
  have hnext : (a + 1).toNat = (a.toNat + 1) % 65536 := BitVec.toNat_add a 1
  refine ⟨joinBytes_toNat _ _, hnext, ?halves, fun h1 h2 => ?readBack⟩
  case halves => rw [State.memWrite16, lowByte_eq_ofNat, highByte_eq_ofNat]
  case readBack => exact s.memRead16_memWrite16_plain (.inl ⟨h1, by omega⟩) (.inl ⟨by omega, by omega⟩) w

end Sys2Proof.Machine
end

section
/-! PROOFS. The hardware registers (20_memory.md R76 to R84): those that store the byte, those with a behaviour of their own, and the
DMA trigger. -/
namespace Sys2Proof.Machine

/-- The registers that are plain storage (R77, R78, R84). -/
def HwReg.plain : List HwReg :=
  [.sb, .sc, .tima, .tma, .tac, .intFlag, .lcdc, .scy, .scx, .ly, .bgp, .obp0, .obp1, .intEnable]

theorem State.readRegister_stored (s : State) {r : HwReg} (h : r ≠ .joyp) : s.readRegister r = s.io.get r := by
  cases r
  case joyp => exact absurd rfl h
  all_goals rfl

theorem State.writeRegister_stored (s : State) {r : HwReg} (h : r ∉ ([.div, .stat, .boot] : List HwReg)) (v : Byte) :
    s.writeRegister r v = { s with io := s.io.set r v } := by
  cases r
  case div | stat | boot => exact absurd (by decide) h
  all_goals rfl

/-- None of them has a behaviour of its own. -/
theorem HwReg.plain_ordinary :
    ∀ r ∈ HwReg.plain, r ≠ .joyp ∧ r ≠ .dma ∧ r ∉ ([.div, .stat, .boot] : List HwReg) := by decide

/-- What an access of a register that is plain storage does. -/
theorem State.access_plainRegister (s : State) (v : Byte) {r : HwReg} (hr : r ∈ HwReg.plain) :
    s.memRead r.addr = s.io.get r ∧ s.memWrite r.addr v = { s with io := s.io.set r v } := by
  obtain ⟨hjoyp, hdma, hown⟩ := HwReg.plain_ordinary r hr
  exact ⟨by rw [State.memRead_register, s.readRegister_stored hjoyp],
    by rw [State.memWrite_register s hdma, s.writeRegister_stored hown]⟩

/-- Settles O11: the access of a plain register, at each address and by name. -/
theorem plainRegistersStoreTheByte : Obligations.PlainRegistersStoreTheByte := by
  refine ⟨fun s v => ?addresses, fun _ => rfl, fun s v r hr => ?names⟩
  case addresses =>
    have access (r : HwReg) (hr : r ∈ HwReg.plain) := s.access_plainRegister v hr
    exact ⟨access .sb (by decide), access .sc (by decide), access .tima (by decide), access .tma (by decide),
      access .tac (by decide), access .intFlag (by decide), access .lcdc (by decide), access .scy (by decide),
      access .scx (by decide), access .ly (by decide), access .bgp (by decide), access .obp0 (by decide),
      access .obp1 (by decide), access .intEnable (by decide)⟩
  case names =>
    obtain ⟨hread, hwrite⟩ := s.access_plainRegister v hr
    obtain ⟨hback, _⟩ := (s.memWrite r.addr v).access_plainRegister v hr
    rw [hback, hwrite]
    exact ⟨hread, HwRegs.get_set_same s.io r v, fun q hq => HwRegs.get_set_other s.io hq v, _, rfl⟩

/-- Settles O12: what a read and a write of each of the four registers do. -/
theorem specialRegisterBehaviours : Obligations.SpecialRegisterBehaviours := fun s v =>
  have access (r : HwReg) (h : r ≠ .dma) : s.memRead r.addr = s.readRegister r ∧ s.memWrite r.addr v = s.writeRegister r v :=
    ⟨s.memRead_register r, s.memWrite_register h v⟩
  ⟨access .div (by decide), access .boot (by decide), access .stat (by decide), access .joyp (by decide)⟩

theorem State.memWrite_dma_valid (s : State) {page : Byte} (h : page.toNat ≤ s.params.dmaPageMax.toNat) :
    s.memWrite HwReg.dma.addr page = ({ s with io := s.io.set .dma page } : State).dmaCopy page := by
  rw [State.memWrite, if_pos ⟨rfl, h⟩, State.memWriteNoCopy_dma]

theorem State.memWrite_dma_invalid (s : State) {page : Byte} (h : s.params.dmaPageMax.toNat < page.toNat) :
    s.memWrite HwReg.dma.addr page = { s with io := s.io.set .dma page } := by
  rw [State.memWrite, if_neg (fun hv => Nat.not_le.mpr h hv.2), State.memWriteNoCopy_dma]

/-- The trigger reads as the page written, whether or not it was copied. -/
theorem State.memRead_memWrite_dma (s : State) (page : Byte) : (s.memWrite HwReg.dma.addr page).memRead HwReg.dma.addr = page := by
  have stored : ({ s with io := s.io.set .dma page } : State).memRead HwReg.dma.addr = page := State.memRead_register _ .dma
  rcases Nat.lt_or_ge s.params.dmaPageMax.toNat page.toNat with h | h
  · rw [s.memWrite_dma_invalid h, stored]
  · obtain ⟨_, _, _, _, _, hout⟩ := ({ s with io := s.io.set .dma page } : State).dmaCopy_spec page
    rw [s.memWrite_dma_valid h, hout _ (.inr (by decide)), stored]

theorem sourceAddr_eq_ofNat {i : Nat} (h : i < 256) (page : Byte) :
    joinBytes (BitVec.ofNat 8 i) page = BitVec.ofNat 16 (page.toNat * 0x100 + i) := by
  apply BitVec.eq_of_toNat_eq
  have := page.isLt
  rw [sourceAddr_toNat h, BitVec.toNat_ofNat, Nat.mod_eq_of_lt (by omega)]

/-- Settles O13: a valid page is stored and copied, any other is stored. -/
theorem dmaTriggerCopiesThePage : Obligations.DmaTriggerCopiesThePage := by
  intro s page u
  refine ⟨fun hv => ?valid, s.memWrite_dma_invalid, s.memRead_register .dma, s.memRead_memWrite_dma page⟩
  case valid =>
    have hw : s.memWrite 0xFF46 page = u.dmaCopy page := s.memWrite_dma_valid hv
    obtain ⟨m, he, _, _, hin, hout⟩ := u.dmaCopy_spec page
    rw [hw]
    refine ⟨⟨m, he⟩, fun i hi => ?_, hout⟩
    rw [← sourceAddr_eq_ofNat hi]
    exact hin i hi

end Sys2Proof.Machine
end

section
/-! PROOFS. Loading an image (20_memory.md R64, R90): what seeding a memory leaves in it, by induction over the image. -/
namespace Sys2Proof.Machine

/-- The addresses of the image read as its bytes, every other address as before. -/
theorem Memory.get_seed (m : Memory) (u : Nat → Byte) (a : Nat) (image : List Byte) (k : Nat) :
    (m.seed a image).get u k = if a ≤ k ∧ k < a + image.length then image.getD (k - a) 0 else m.get u k := by
  induction image generalizing m a with
  | nil => rw [if_neg (by simp), Memory.seed]
  | cons v rest ih =>
    rw [Memory.seed, ih, List.length_cons]
    rcases Nat.lt_trichotomy k a with h | rfl | h
    · rw [if_neg (by omega), if_neg (by omega), Memory.get_set_other m u v (by omega)]
    · rw [if_neg (by omega), if_pos (by omega), Memory.get_set_same, Nat.sub_self, List.getD_cons_zero]
    · obtain ⟨j, rfl⟩ : ∃ j, k = a + 1 + j := ⟨k - (a + 1), by omega⟩
      rw [Memory.get_set_other m u v (by omega), Nat.add_sub_cancel_left, show a + 1 + j - a = j + 1 by omega, List.getD_cons_succ]
      exact if_congr (by omega) rfl rfl

/-- Every cell is one from before or at an address of the image. -/
theorem Memory.mem_seed {m : Memory} {a : Nat} {image : List Byte} {c : Host.Cell} (h : c ∈ m.seed a image) :
    c ∈ m ∨ (a ≤ c.1 ∧ c.1 < a + image.length) := by
  induction image generalizing m a with
  | nil => exact .inl h
  | cons v rest ih =>
    rw [List.length_cons]
    rcases ih h with h | h
    · rcases Memory.mem_set h with rfl | h
      · exact .inr ⟨Nat.le_refl a, Nat.lt_add_of_pos_right (Nat.succ_pos _)⟩
      · exact .inl h
    · exact .inr (by omega)

/-- An image inside the address space keeps the canonical form. -/
theorem Memory.wf_seed {m : Memory} (hm : m.wf) {a : Nat} {image : List Byte} (h : a + image.length ≤ 0x10000) :
    (m.seed a image).wf := by
  induction image generalizing m a with
  | nil => exact hm
  | cons v rest ih =>
    rw [List.length_cons] at h
    exact ih (Memory.wf_set hm (by omega) v) (by omega)

theorem State.loadImage_eq (s : State) {image : List Byte} (h : image.length ≤ 0x8000) :
    s.loadImage image = { s with params := { s.params with rom := s.params.rom.seed 0 image } } := by
  rw [State.loadImage, List.take_of_length_le h]

theorem State.romByte_loadImage (s : State) {image : List Byte} (h : image.length ≤ 0x8000) (k : Nat) :
    (s.loadImage image).romByte k = if k < image.length then image.getD k 0 else s.romByte k := by
  rw [s.loadImage_eq h, State.romByte, Memory.get_seed]
  exact if_congr (by omega) rfl rfl

theorem State.loadImage_inv (s : State) {image : List Byte} (h : image.length ≤ 0x8000) (hs : s.Inv) : (s.loadImage image).Inv := by
  obtain ⟨hmem, ⟨hrom, hboot, hromRange, hbootRange⟩, hrest⟩ := hs
  rw [s.loadImage_eq h]
  refine ⟨hmem, ⟨Memory.wf_seed hrom (by omega), hboot, fun c hc => ?romRange, hbootRange⟩, hrest⟩
  case romRange =>
    rcases Memory.mem_seed hc with hc | ⟨_, hc⟩
    · exact hromRange c hc
    · omega

/-- Settles O34: the image fits, so all of it is seeded from address 0. -/
theorem loadImageSeedsRom : Obligations.LoadImageSeedsRom := fun s _ h =>
  ⟨s.romByte_loadImage h, ⟨_, s.loadImage_eq h⟩, s.loadImage_inv h⟩

end Sys2Proof.Machine
end

section
/-! PROOFS. Decoding after encoding (30_encoding.md R110, R111): what is said of each instruction's bytes, of all instructions. -/
namespace Sys2Proof.Laws.Encoding

/-- Every instruction's bytes decode to it: the case of each constructor is the lemma of its name. -/
theorem statement (i : Instr) : Statement i :=
  Instr.rec (motive := Statement)
    ldBN ldCN ldDN ldEN ldHN ldLN ldIndHlN ldAN ldhIndNA ldIndNnA ldhAIndN ldAIndNn ldBcNn ldIndNnSp ldDeNn ldHlNn ldSpNn
    ldHlSpN addAN adcAN subAN sbcAN andAN xorAN orAN cpAN addSpN jrN jrNzN jrZN jrNcN jrCN jpNzNn jpNn callNzNn jpZNn callZNn
    callNn jpNcNn callNcNn jpCNn callCNn stop prefixCb illegal ldIndBcA ldAIndBc ldIndDeA ldAIndDe ldIndHlIncA ldAIndHlInc
    ldIndHlDecA ldAIndHlDec ldBB ldBC ldBD ldBE ldBH ldBL ldBIndHl ldBA ldCB ldCC ldCD ldCE ldCH ldCL ldCIndHl ldCA ldDB ldDC
    ldDD ldDE ldDH ldDL ldDIndHl ldDA ldEB ldEC ldED ldEE ldEH ldEL ldEIndHl ldEA ldHB ldHC ldHD ldHE ldHH ldHL ldHIndHl ldHA
    ldLB ldLC ldLD ldLE ldLH ldLL ldLIndHl ldLA ldIndHlB ldIndHlC ldIndHlD ldIndHlE ldIndHlH ldIndHlL ldIndHlA ldAB ldAC ldAD
    ldAE ldAH ldAL ldAIndHl ldAA ldIndCA ldAIndC popBc pushBc popDe pushDe popHl pushHl popAf pushAf ldSpHl incB decB incC
    decC incD decD incE decE incH decH daa incL decL cpl incIndHl decIndHl scf incA decA ccf addAB addAC addAD addAE addAH
    addAL addAIndHl addAA adcAB adcAC adcAD adcAE adcAH adcAL adcAIndHl adcAA subAB subAC subAD subAE subAH subAL subAIndHl
    subAA sbcAB sbcAC sbcAD sbcAE sbcAH sbcAL sbcAIndHl sbcAA andAB andAC andAD andAE andAH andAL andAIndHl andAA xorAB xorAC
    xorAD xorAE xorAH xorAL xorAIndHl xorAA orAB orAC orAD orAE orAH orAL orAIndHl orAA cpAB cpAC cpAD cpAE cpAH cpAL cpAIndHl
    cpAA incBc addHlBc decBc incDe addHlDe decDe incHl addHlHl decHl incSp addHlSp decSp rlca rrca rla rra rlcB rlcC rlcD rlcE
    rlcH rlcL rlcIndHl rlcA rrcB rrcC rrcD rrcE rrcH rrcL rrcIndHl rrcA rlB rlC rlD rlE rlH rlL rlIndHl rlA rrB rrC rrD rrE
    rrH rrL rrIndHl rrA slaB slaC slaD slaE slaH slaL slaIndHl slaA sraB sraC sraD sraE sraH sraL sraIndHl sraA swapB swapC
    swapD swapE swapH swapL swapIndHl swapA srlB srlC srlD srlE srlH srlL srlIndHl srlA bit0B bit0C bit0D bit0E bit0H bit0L
    bit0IndHl bit0A bit1B bit1C bit1D bit1E bit1H bit1L bit1IndHl bit1A bit2B bit2C bit2D bit2E bit2H bit2L bit2IndHl bit2A
    bit3B bit3C bit3D bit3E bit3H bit3L bit3IndHl bit3A bit4B bit4C bit4D bit4E bit4H bit4L bit4IndHl bit4A bit5B bit5C bit5D
    bit5E bit5H bit5L bit5IndHl bit5A bit6B bit6C bit6D bit6E bit6H bit6L bit6IndHl bit6A bit7B bit7C bit7D bit7E bit7H bit7L
    bit7IndHl bit7A res0B res0C res0D res0E res0H res0L res0IndHl res0A res1B res1C res1D res1E res1H res1L res1IndHl res1A
    res2B res2C res2D res2E res2H res2L res2IndHl res2A res3B res3C res3D res3E res3H res3L res3IndHl res3A res4B res4C res4D
    res4E res4H res4L res4IndHl res4A res5B res5C res5D res5E res5H res5L res5IndHl res5A res6B res6C res6D res6E res6H res6L
    res6IndHl res6A res7B res7C res7D res7E res7H res7L res7IndHl res7A set0B set0C set0D set0E set0H set0L set0IndHl set0A
    set1B set1C set1D set1E set1H set1L set1IndHl set1A set2B set2C set2D set2E set2H set2L set2IndHl set2A set3B set3C set3D
    set3E set3H set3L set3IndHl set3A set4B set4C set4D set4E set4H set4L set4IndHl set4A set5B set5C set5D set5E set5H set5L
    set5IndHl set5A set6B set6C set6D set6E set6H set6L set6IndHl set6A set7B set7C set7D set7E set7H set7L set7IndHl set7A
    retNz rst00 retZ ret rst08 retNc rst10 retC reti rst18 rst20 jpHl rst28 rst30 rst38 nop halt di ei i

end Sys2Proof.Laws.Encoding

namespace Sys2Proof.Machine

theorem instrLength_pos (b : Byte) : 0 < instrLength b := by
  unfold instrLength
  split <;> omega

/-- A list that holds the whole of its first instruction decodes to it, and the bytes after it are left (R110, R122). -/
theorem decode_of_length_le {bytes : List Byte} (h : instrLength (bytes.getD 0 0) ≤ bytes.length) :
    decode bytes =
      .ok (decodeBytes (bytes.getD 0 0) (bytes.getD 1 0) (bytes.getD 2 0), bytes.drop (instrLength (bytes.getD 0 0))) := by
  cases bytes with
  | nil => exact absurd (instrLength_pos _) (Nat.not_lt.mpr h)
  | cons b rest =>
    have hdrop : (b :: rest).drop (instrLength b) = rest.drop (instrLength b - 1) := List.drop_cons (instrLength_pos b)
    exact (if_neg (Nat.not_lt.mpr h)).trans (by rw [List.getD_cons_zero, hdrop]; rfl)

/-- Settles O16: an instruction's bytes are as many as their first says, so the list after them is what is left. -/
theorem decodeOfEncodeIsTheInstruction : Obligations.DecodeOfEncodeIsTheInstruction := by
  intro i rest hi
  obtain ⟨hdecode, hlength⟩ := Laws.Encoding.statement i hi rest
  have hfits : instrLength ((encode i ++ rest).getD 0 0) ≤ (encode i ++ rest).length := by
    rw [← hlength, List.length_append]
    exact Nat.le_add_right _ _
  rw [decode_of_length_le hfits, hdecode, ← hlength, List.drop_left]

end Sys2Proof.Machine
end

section
/-! PROOFS. The words, the texts and the encoder by the fields of an opcode byte (30_encoding.md R112, R121, R127, R128). -/
namespace Sys2Proof.Machine

/-- Settles O18, by evaluation of the decoder on each word. -/
theorem knownWordsDecode : Obligations.KnownWordsDecode :=
  ⟨rfl, rfl, rfl, rfl, rfl, rfl, rfl, rfl, rfl, rfl, rfl, rfl, rfl, rfl, rfl, rfl, rfl, rfl, rfl⟩

/-- Settles O35, by evaluation of each text. -/
theorem disassemblyExamples : Obligations.DisassemblyExamples := ⟨rfl, rfl, rfl, rfl, rfl, rfl, rfl⟩

/-- The opcode byte of three fields (R112). -/
def opcodeOf (x : Fin 4) (y z : Fin 8) : Byte := BitVec.ofNat 8 (64 * x.val + 8 * y.val + z.val)

theorem opcodeOf_fields : ∀ b : Byte, opcodeOf (fieldX b) (fieldY b) (fieldZ b) = b := by decide

/-- The encoder undoes the primary table: an entry's bytes are the opcode byte and as many operand bytes as it says, at each value
of the three fields. -/
theorem encode_decodePrimary (b : Byte) (nn : Word) :
    encode (decodePrimary b (lowByte nn) nn) = [b, lowByte nn, highByte nn].take (instrLength b) := by
  rw [← opcodeOf_fields b]
  generalize fieldX b = x, fieldY b = y, fieldZ b = z
  revert y z
  match x with
  | 0 | 1 | 2 | 3 =>
    refine forall_fin8 ?_ ?_ ?_ ?_ ?_ ?_ ?_ ?_ <;> exact forall_fin8 rfl rfl rfl rfl rfl rfl rfl rfl

/-- The encoder undoes the extended table (R128). -/
theorem encode_decodeExtended : ∀ xop : Byte, encode (decodeExtended xop) = [0xCB, xop] := by decide

/-- The redirection into the extended table leaves the bytes as they are (R120). -/
theorem encode_decodeBytes (b0 b1 b2 : Byte) : encode (decodeBytes b0 b1 b2) = [b0, b1, b2].take (instrLength b0) := by
  have hprimary := encode_decodePrimary b0 (joinBytes b1 b2)
  rw [lowByte_joinBytes, highByte_joinBytes] at hprimary
  rw [← hprimary, decodeBytes]
  split
  case h_1 xop hprefix => rw [hprefix, encode_decodeExtended]; rfl
  case h_2 => rfl

theorem wellFormed_decodeExtended : ∀ xop : Byte, (decodeExtended xop).wellFormed = true := by decide

/-- Every entry of both tables is well formed (R122); whether it is does not depend on the operand bytes. -/
theorem wellFormed_decodeBytes (b0 b1 b2 : Byte) : (decodeBytes b0 b1 b2).wellFormed = true := by
  have primary : ∀ b : Byte, b ≠ 0xCB → (decodeBytes b b1 b2).wellFormed = true := of_decide_eq_true rfl
  by_cases h : b0 = 0xCB
  · subst h
    exact wellFormed_decodeExtended b1
  · exact primary b0 h

/-- A removed byte is the whole of its instruction (R121). -/
theorem decodeBytes_removed {b0 : Byte} (h : b0 ∈ removedOpcodes) (b1 b2 : Byte) :
    decodeBytes b0 b1 b2 = .illegal b0 ∧ instrLength b0 = 1 := by
  obtain ⟨hdecode, hlength⟩ := Laws.Encoding.illegal b0 (List.contains_iff_mem.mpr h) [b1, b2]
  exact ⟨hdecode, hlength.symm⟩

/-- Settles O17: a removed opcode that three bytes decode to is well formed and encodes as itself, so it is the first of them. -/
theorem everyByteDecodesToItsInstruction : Obligations.EveryByteDecodesToItsInstruction := by
  intro b0 b1 b2
  refine ⟨wellFormed_decodeBytes b0 b1 b2, encode_decodeBytes b0 b1 b2, ?onlyRemoved, fun h => ?removed⟩
  case onlyRemoved =>
    rintro ⟨c, hc⟩
    have hbytes := encode_decodeBytes b0 b1 b2
    have hwf := wellFormed_decodeBytes b0 b1 b2
    obtain ⟨k, hk⟩ : ∃ k, instrLength b0 = k + 1 := Nat.exists_eq_succ_of_ne_zero (instrLength_pos b0).ne'
    rw [hc, hk, List.take_succ_cons] at hbytes
    obtain rfl : c = b0 := List.head_eq_of_cons_eq hbytes
    rw [hc] at hwf
    exact List.contains_iff_mem.mp hwf
  case removed => exact ⟨b0, (decodeBytes_removed h b1 b2).1⟩

end Sys2Proof.Machine
end

section
/-! PROOFS. The cost of an instruction (30_encoding.md R129, 70_reset_and_hazards.md R365): each but a removed opcode completes
and charges what its row declares; the entry `PREFIX CB` (R120, R295) and the removed opcodes (R121, R296). -/
namespace Sys2Proof.Machine

/-- The outcome `r` from `s` is a next state, and `cycles` has grown by `cost` (log 12). -/
def Charges (s : State) (r : Result) (cost : Nat) : Prop := ∃ t, r = .next t ∧ t.cycles = s.cycles + cost

theorem Charges.next {s u : State} {cost : Nat} (h : u.cycles = s.cycles) : Charges s (.next (u.charge cost)) cost :=
  ⟨_, rfl, by rw [State.charge_cycles, h]⟩

/-- A conditional transfer charges what its row declares when its meaning charges the row's two costs on the condition that the
row's opcode selects. -/
theorem Charges.ofRow {i : Instr} {s : State} {cc : Cond} {code : Byte} {head : String} {tail : Option String}
    {width base taken : Nat} (hrow : instrDescriptor i = descriptor code head tail width (some base) (some taken))
    (hcc : condOf (fieldY code) = cc) (h : Charges s (exec i s) (if s.cond cc then taken else base)) :
    Charges s (exec i s) (declaredCost i s) := by
  subst hcc
  rw [declaredCost, hrow]
  exact h

@[simp] theorem State.pop16_cycles (s : State) : s.pop16.2.cycles = s.cycles := rfl

@[simp] theorem State.returnFromInterrupt_cycles (s : State) : s.returnFromInterrupt.cycles = s.cycles := rfl

@[simp] theorem State.writeOperand_cycles (s : State) (o : Operand8) (v : Byte) : (s.writeOperand o v).cycles = s.cycles := by
  cases o with
  | reg r => exact s.setR8_cycles r v
  | hlInd => exact s.memWrite_cycles s.hl v

theorem jumpIf_charges (cc : Cond) (target : Word) (base taken : Nat) (s : State) :
    Charges s (jumpIf cc target base taken s) (if s.cond cc then taken else base) := by
  unfold jumpIf
  split <;> exact .next rfl

theorem callIf_charges (cc : Cond) (target : Word) (s : State) :
    Charges s (callIf cc target s) (if s.cond cc then 24 else 12) := by
  unfold callIf
  split
  case isTrue => exact .next (s.push16_cycles s.pc)
  case isFalse => exact .next rfl

theorem returnIf_charges (cc : Cond) (s : State) : Charges s (returnIf cc s) (if s.cond cc then 20 else 8) := by
  unfold returnIf
  split <;> exact .next rfl

/-- The rows of the extended table (R240): 8 cycles on a register; on `(HL)` 12 for `BIT`, 16 for the others. -/
theorem extendedDescriptor_cost : ∀ xop : Byte, (extendedDescriptor xop).cyclesTaken = none ∧
    (extendedDescriptor xop).cycles = some (operandCost (r8Of (fieldZ xop)) 8 (if fieldX xop = 1 then 12 else 16)) := by decide

theorem declaredCost_prefixCb (xop : Byte) (s : State) :
    declaredCost (.prefixCb xop) s = operandCost (r8Of (fieldZ xop)) 8 (if fieldX xop = 1 then 12 else 16) := by
  obtain ⟨htaken, hcycles⟩ := extendedDescriptor_cost xop
  have hrow : instrDescriptor (.prefixCb xop) = extendedDescriptor xop := rfl
  rw [declaredCost, hrow, htaken, hcycles]
  rfl

theorem prefixCb_charges (xop : Byte) (s : State) : Charges s (exec (.prefixCb xop) s) (declaredCost (.prefixCb xop) s) := by
  show Charges s (execPrefixCb xop s) _
  rw [declaredCost_prefixCb, execPrefixCb]
  generalize fieldX xop = x
  match x with
  | 0 => exact .next (by simp)
  | 1 => exact .next (by simp)
  | 2 => exact .next (by simp)
  | 3 => exact .next (by simp)

/-- Once for all: what every instruction but a removed opcode charges. An instruction that is no conditional transfer is updates
that leave `cycles`, then one charge. -/
theorem exec_charges {i : Instr} (hi : ∀ c : Byte, i ≠ .illegal c) (s : State) : Charges s (exec i s) (declaredCost i s) := by
  cases i with
  | illegal c => exact absurd rfl (hi c)
  | prefixCb xop => exact prefixCb_charges xop s
  | jrNzN _ | jrZN _ | jrNcN _ | jrCN _ | jpNzNn _ | jpZNn _ | jpNcNn _ | jpCNn _ =>
    exact .ofRow rfl rfl (jumpIf_charges _ _ _ _ s)
  | callNzNn _ | callZNn _ | callNcNn _ | callCNn _ => exact .ofRow rfl rfl (callIf_charges _ _ s)
  | retNz | retZ | retNc | retC => exact .ofRow rfl rfl (returnIf_charges _ s)
  | _ => exact .next (by simp)

/-- Settles O29: the growth of `cycles` is what the row declares. -/
theorem everyInstructionChargesItsDeclaredCost : Obligations.EveryInstructionChargesItsDeclaredCost :=
  fun _ s hi => exec_charges hi s

/-- The row, and so the declared cost, is looked up by an instruction's bytes. -/
theorem declaredCost_congr {i j : Instr} (h : encode i = encode j) (s : State) : declaredCost i s = declaredCost j s := by
  rw [declaredCost, declaredCost, instrDescriptor, instrDescriptor, h]

/-- Settles O19: `PREFIX CB`, as a constructor of its own, runs the entry it selects, whose bytes and cost are its own. -/
theorem prefixRunsTheExtendedEntry : Obligations.PrefixRunsTheExtendedEntry := by
  refine ⟨fun s h => ?fetch, fun s xop => ⟨encode_decodeExtended xop, rfl, ?runs⟩⟩
  case fetch =>
    rw [State.fetchInstr, h]
    rfl
  case runs =>
    obtain ⟨t, ht, hcycles⟩ := prefixCb_charges xop s
    have hcost : declaredCost (decodeExtended xop) s = declaredCost (.prefixCb xop) s :=
      declaredCost_congr (encode_decodeExtended xop) s
    rw [hcost]
    exact ⟨t, ht, exec_prefixCb xop s ▸ ht, hcycles⟩

/-- A removed byte at `PC` is fetched alone. -/
theorem fetchInstr_removed {s : State} (h : s.memRead s.pc ∈ removedOpcodes) :
    s.fetchInstr = (.illegal (s.memRead s.pc), { s with pc := s.pc + 1 }) := by
  obtain ⟨hdecode, hlength⟩ := decodeBytes_removed h (s.memRead (s.pc + 1)) (s.memRead (s.pc + 2))
  rw [State.fetchInstr, hdecode, hlength]
  rfl

/-- Settles O28: the meaning of a removed opcode, that every other instruction completes, and the fetch of a removed byte. -/
theorem onlyRemovedOpcodesAreFatal : Obligations.OnlyRemovedOpcodesAreFatal := by
  refine ⟨fun _ _ => rfl, fun i s hi => (exec_charges hi s).imp fun _ h => h.1, fun s hm hp hb => ?step⟩
  case step =>
    have hnone : s.pendingInterrupt = none := s.pendingInterrupt_eq_none_iff.mpr (hp.imp_right (getIsr_eq_none_iff _).mpr)
    rw [step_execute hm hnone, fetchInstr_removed hb]
    rfl

end Sys2Proof.Machine
end

section
/-! PROOFS. The loads and stores of a byte (40_load8.md): the bytes of each form; then what each instruction does is what the
operation it names does. -/
namespace Sys2Proof.Machine

theorem encode_ldRegReg (dst src : Reg8) : encode (Form.ldRegReg dst src) = [0x40 + 8 * dst.code + src.code] := by
  cases dst <;> cases src <;> rfl

theorem encode_ldRegImm (dst : Reg8) (n : Byte) : encode (Form.ldRegImm dst n) = [0x06 + 8 * dst.code, n] := by
  cases dst <;> rfl

theorem encode_ldRegInd (dst : Reg8) : encode (Form.ldRegInd dst) = [0x46 + 8 * dst.code] := by
  cases dst <;> rfl

theorem encode_ldIndReg (src : Reg8) : encode (Form.ldIndReg src) = [0x70 + src.code] := by
  cases src <;> rfl

/-- Settles O36: both forms are a load of the destination. -/
theorem loadRegister : Obligations.LoadRegister := by
  intro s dst src n
  refine ⟨⟨encode_ldRegReg dst src, ?copy⟩, encode_ldRegImm dst n, ?immediate⟩
  case copy =>
    rw [exec_ldRegReg]
    exact loadReg_spec dst (s.getR8 src) 4 s
  case immediate =>
    rw [exec_ldRegImm]
    exact loadReg_spec dst n 8 s

/-- The high page is 256 bytes long, so its address as a sum of words is the sum of the numbers (R117). -/
theorem highPage_eq_ofNat (n : Byte) : highPage n = BitVec.ofNat 16 (0xFF00 + n.toNat) := by
  rw [highPage, BitVec.ofNat_add, BitVec.ofNat_toNat]

/-- Settles O37: each is a load of the destination, from the address its form names in the state before the load. -/
theorem loadRegisterFromMemory : Obligations.LoadRegisterFromMemory := by
  intro s dst n nn
  rw [← highPage_eq_ofNat, ← highPage_eq_ofNat]
  have load (a : Word) (cost : Nat) := loadReg_spec .a (s.memRead a) cost s
  refine ⟨⟨encode_ldRegInd dst, ?atHl⟩, ⟨rfl, load s.bc 8⟩, ⟨rfl, load s.de 8⟩, ⟨rfl, load nn 16⟩, ⟨rfl, load (highPage n) 12⟩,
    rfl, load (highPage (s.getR8 .c)) 8⟩
  case atHl =>
    rw [exec_ldRegInd]
    exact loadReg_spec dst (s.memRead s.hl) 8 s

/-- Settles O38: each is one byte write through the controller. -/
theorem storeByteToMemory : Obligations.StoreByteToMemory := by
  intro s src n nn
  rw [← highPage_eq_ofNat, ← highPage_eq_ofNat]
  have store (a : Word) (cost : Nat) := storeByte_spec a s.getA cost s
  refine ⟨⟨encode_ldIndReg src, ?register⟩, ⟨rfl, storeByte_spec s.hl n 12 s⟩, ⟨rfl, store s.bc 8⟩, ⟨rfl, store s.de 8⟩,
    ⟨rfl, store nn 16⟩, ⟨rfl, store (highPage n) 12⟩, rfl, store (highPage (s.getR8 .c)) 8⟩
  case register =>
    rw [exec_ldIndReg]
    exact storeByte_spec s.hl (s.getR8 src) 8 s

theorem loadStep_toNat (k : Word) (s : State) : ∃ t, loadStep k s = .next t ∧ t.getA = s.memRead s.hl ∧
    t.hl.toNat = (s.hl.toNat + k.toNat) % 65536 ∧ Changes [.a, .h, .l] 8 s t := by
  obtain ⟨t, ht, ha, hhl, hframe⟩ := loadStep_spec k s
  exact ⟨t, ht, ha, hhl ▸ BitVec.toNat_add s.hl k, hframe⟩

theorem storeStep_toNat (k : Word) (s : State) : ∃ t, storeStep k s = .next t ∧
    t.hl.toNat = (s.hl.toNat + k.toNat) % 65536 ∧ Stores [(s.hl, s.getA)] [.h, .l] 8 s t := by
  obtain ⟨t, ht, hhl, hframe⟩ := storeStep_spec k s
  exact ⟨t, ht, hhl ▸ BitVec.toNat_add s.hl k, hframe⟩

/-- Settles O39: the step down adds the word -1, whose number is 65535. -/
theorem loadAndStoreSteppingHl : Obligations.LoadAndStoreSteppingHl := fun s =>
  ⟨⟨rfl, storeStep_toNat 1 s⟩, ⟨rfl, loadStep_toNat 1 s⟩, ⟨rfl, storeStep_toNat (-1) s⟩, rfl, loadStep_toNat (-1) s⟩

end Sys2Proof.Machine
end

section
/-! PROOFS. The 16-bit loads, the offset from `SP`, and the stack (41_load16.md, 43_alu16.md R233): the bytes of each form; then
what each instruction does is what the operation it names does. -/
namespace Sys2Proof.Machine

theorem encode_ldPairImm (p : Reg16) (nn : Word) :
    encode (Form.ldPairImm p nn) = [0x01 + 16 * p.code, lowByte nn, highByte nn] := by
  cases p <;> rfl

theorem encode_push (q : Stk16) : encode (Form.push q) = [0xC5 + 16 * q.code] := by
  cases q <;> rfl

theorem encode_pop (q : Stk16) : encode (Form.pop q) = [0xC1 + 16 * q.code] := by
  cases q <;> rfl

/-- Settles O40: the first two are loads of a pair, the third a word write through the controller. -/
theorem loadPairAndStoreStackPointer : Obligations.LoadPairAndStoreStackPointer := by
  intro s p nn
  refine ⟨⟨encode_ldPairImm p nn, ?immediate⟩, ⟨rfl, loadPair_spec .sp s.hl 8 s⟩, rfl, _, rfl, writeSp_spec nn s⟩
  case immediate =>
    rw [exec_ldPairImm]
    exact loadPair_spec p nn 12 s

/-- The sign extension of R5 as a number: a byte with its top bit set grows by 0xFF00. -/
theorem sext16_toNat (n : Byte) : (sext16 n).toNat = sextNat n := by
  have hlow : n.toNat % 2 ^ 16 = n.toNat := Nat.mod_eq_of_lt (Nat.lt_trans n.isLt (by decide))
  rw [sext16, BitVec.toNat_signExtend, BitVec.toNat_setWidth, hlow, BitVec.msb_eq_decide, sextNat]
  rcases Nat.lt_or_ge n.toNat 128 with h | h
  · rw [if_pos h, decide_eq_false (Nat.not_le.mpr h)]
    rfl
  · rw [if_neg (Nat.not_lt.mpr h), decide_eq_true h]
    rfl

/-- `SP` plus an offset as a number, with the flags of the unsigned low bytes. -/
theorem spOffset_toNat (p : Reg16) (n : Byte) (cost : Nat) (s : State) :
    ∃ t, spOffset p n cost s = .next t ∧ (t.getR16 p).toNat = (s.sp.toNat + sextNat n) % 65536 ∧
      t.flags = (spOffsetEval s.sp n).2 ∧ Changes (pairNames p ++ [.f]) cost s t := by
  obtain ⟨t, ht, hsum, hflags, hframe⟩ := spOffset_spec p n cost s
  refine ⟨t, ht, ?sum, hflags, hframe.weaken fun r hr => ?names⟩
  case sum =>
    rw [hsum, ← sext16_toNat]
    exact BitVec.toNat_add s.sp (sext16 n)
  case names => exact (List.perm_append_singleton .f (pairNames p)).mem_iff.mpr hr

/-- Settles O41: both are the same sum, written to `HL` and to `SP`. -/
theorem offsetFromStackPointer : Obligations.OffsetFromStackPointer := fun s n =>
  ⟨⟨rfl, spOffset_toNat .hl n 12 s⟩, rfl, spOffset_toNat .sp n 16 s⟩

/-- Settles O42: the word pushed is the pair as it reads, so the low byte of `AF` is `F` under its mask. -/
theorem pushStoresThePair : Obligations.PushStoresThePair := by
  refine fun s q => ⟨encode_push q, ?effect, rfl, ?lowNibble⟩
  case effect =>
    rw [exec_push]
    exact pushPair_spec q s
  case lowNibble =>
    have hlow : lowByte (s.getStk16 .af) = s.getF := lowByte_joinBytes s.getF s.getA
    rw [hlow, State.getF_lowNibble]

/-- Settles O43: the word popped is the two bytes at `SP`; of the pairs `AF` alone holds the flags. -/
theorem popLoadsThePair : Obligations.PopLoadsThePair := by
  intro s q w
  obtain ⟨t, ht, hpair, hsp, hflags, hframe⟩ := popPair_spec q s
  refine ⟨encode_pop q, t, (exec_pop q s).trans ht, hpair, hsp, fun hq => ?flags, hframe⟩
  case flags => rw [hflags, if_pos hq]

end Sys2Proof.Machine
end

section
/-! PROOFS. The 8-bit sum and difference as numbers (42_alu8.md R190, R191), and the accumulator operations that use them or are
bitwise (R192 to R200): what each form does is what its operation computes. -/
namespace Sys2Proof.Machine

/-- The flag Z of a result, by the result's number. -/
theorem beq_zero_of_toNat {r : Byte} {k : Nat} (h : r.toNat = k) : (r == 0#8) = decide (k = 0) := by
  rw [beq_eq_decide, ← h]
  exact decide_eq_decide.mpr BitVec.toNat_eq

theorem add8_value_toNat (a b : Byte) (cin : Bool) : (add8 a b cin).value.toNat = (a.toNat + b.toNat + cin.toNat) % 256 :=
  BitVec.toNat_ofNat _ 8

/-- The difference is an integer above -512, so adding 512 before the remainder makes it a number. -/
theorem sub8_value_toNat (a b : Byte) (cin : Bool) :
    (sub8 a b cin).value.toNat = (a.toNat + 512 - b.toNat - cin.toNat) % 256 := by
  have hb := b.isLt
  have hc := Bool.toNat_le cin
  have hmod : (sub8 a b cin).value.toNat = (((a.toNat : Int) - b.toNat - cin.toNat) % (2 ^ 8 : Nat)).toNat := BitVec.toNat_ofInt _
  omega

/-- Settles O44: Z is read off the result's number; the other flags are the definitions' own. -/
theorem addAndSubtractPrimitives : Obligations.AddAndSubtractPrimitives := by
  refine fun a b cin => ⟨⟨add8_value_toNat a b cin, ?sumFlags⟩, sub8_value_toNat a b cin, ?differenceFlags⟩
  case sumFlags =>
    rw [← beq_zero_of_toNat (add8_value_toNat a b cin)]
    rfl
  case differenceFlags =>
    rw [← beq_zero_of_toNat (sub8_value_toNat a b cin)]
    rfl

theorem encode_alu (op : AluOp) (o : Operand8) : encode (Form.alu op o) = [0x80 + 8 * op.code + o.code] := by
  rcases o with r | _
  · cases op <;> cases r <;> rfl
  · cases op <;> rfl

theorem encode_aluImm (op : AluOp) (n : Byte) : encode (Form.aluImm op n) = [0xC6 + 8 * op.code, n] := by
  cases op <;> rfl

/-- Every operation but `CP`, in every form, writes to `A` and `F` what it computes on `A`, the operand and the old flag C. -/
theorem accForms_aluEval {op : AluOp} (h : op ≠ .cp) (s : State) :
    AccForms op (fun v => aluEval op s.getA v s.flags.c) [.a, .f] s := by
  refine ⟨fun o => ⟨encode_alu op o, ?operand⟩, fun n => ⟨encode_aluImm op n, ?immediate⟩⟩
  case operand =>
    obtain ⟨t, ht, hvalue, hflags, hframe⟩ := aluAcc_spec h (s.readOperand o) (operandCost o 4 8) s
    exact ⟨t, (exec_alu op o s).trans ht, fun _ => hvalue, hflags, hframe⟩
  case immediate =>
    obtain ⟨t, ht, hvalue, hflags, hframe⟩ := aluAcc_spec h n 8 s
    exact ⟨t, (exec_aluImm op n s).trans ht, fun _ => hvalue, hflags, hframe⟩

/-- `CP` writes the flags alone (R200). -/
theorem accForms_cp (s : State) : AccForms .cp (fun v => aluEval .cp s.getA v s.flags.c) [.f] s := by
  have keepsA : RegName.a ∉ [RegName.f] := by decide
  refine ⟨fun o => ⟨encode_alu .cp o, ?operand⟩, fun n => ⟨encode_aluImm .cp n, ?immediate⟩⟩
  case operand =>
    obtain ⟨t, ht, hflags, hframe⟩ := aluAcc_cp_spec (s.readOperand o) (operandCost o 4 8) s
    exact ⟨t, (exec_alu .cp o s).trans ht, fun h => absurd h keepsA, hflags, hframe⟩
  case immediate =>
    obtain ⟨t, ht, hflags, hframe⟩ := aluAcc_cp_spec n 8 s
    exact ⟨t, (exec_aluImm .cp n s).trans ht, fun h => absurd h keepsA, hflags, hframe⟩

/-- Settles O45: the forms of each operation, which computes a sum or a difference. -/
theorem accumulatorArithmetic : Obligations.AccumulatorArithmetic := fun s =>
  have writes (op : AluOp) (h : op ≠ .cp) := accForms_aluEval h s
  ⟨writes .add (by decide), writes .adc (by decide), writes .sub (by decide), writes .sbc (by decide), accForms_cp s⟩

/-- Settles O46: the forms of each operation, which computes a bitwise result. -/
theorem accumulatorLogic : Obligations.AccumulatorLogic := fun s =>
  have writes (op : AluOp) (h : op ≠ .cp) := accForms_aluEval h s
  ⟨writes .and (by decide), writes .xor (by decide), writes .or (by decide)⟩

end Sys2Proof.Machine
end

section
/-! PROOFS. `INC` and `DEC` of a byte (42_alu8.md R201 to R204), and the instructions on `A` or the flags alone (R206 to R208). -/
namespace Sys2Proof.Machine

theorem encode_inc_reg (r : Reg8) : encode (Form.inc (.reg r)) = [0x04 + 8 * r.code] := by
  cases r <;> rfl

theorem encode_dec_reg (r : Reg8) : encode (Form.dec (.reg r)) = [0x05 + 8 * r.code] := by
  cases r <;> rfl

/-- The sum with one wraps from 0xFF alone, and carries out of a full low nibble. -/
theorem incEval_eq (v : Byte) (old : Flags) : incEval v old =
    { value := v + 1, flags := { z := decide (v = 0xFF), n := false, h := decide (v.toNat % 16 = 15), c := old.c } } := by
  have hvalue : (add8 v 1 false).value = v + 1 := BitVec.eq_of_toNat_eq (add8_value_toNat v 1 false)
  have hz : (add8 v 1 false).value = 0#8 ↔ v = 0xFF := by
    rw [hvalue]
    bv_omega
  have hh : v.toNat % 16 + 1 > 0x0F ↔ v.toNat % 16 = 15 := by omega
  simp only [← hvalue, ← decide_eq_decide.mpr hz, ← decide_eq_decide.mpr hh]
  rfl

/-- The difference with one is zero from 0x01 alone, and borrows into an empty low nibble. -/
theorem decEval_eq (v : Byte) (old : Flags) : decEval v old =
    { value := v - 1, flags := { z := decide (v = 0x01), n := true, h := decide (v.toNat % 16 = 0), c := old.c } } := by
  have hvalue : (sub8 v 1 false).value = v - 1 := by
    have hnat : (sub8 v 1 false).value.toNat = (v.toNat + 512 - 1 - 0) % 256 := sub8_value_toNat v 1 false
    bv_omega
  have hz : (sub8 v 1 false).value = 0#8 ↔ v = 0x01 := by
    rw [hvalue]
    bv_omega
  have hh : v.toNat % 16 < 1 ↔ v.toNat % 16 = 0 := Nat.lt_one_iff
  simp only [← hvalue, ← decide_eq_decide.mpr hz, ← decide_eq_decide.mpr hh]
  rfl

/-- Settles O47: on a register and at `HL` the byte and the flags written are those of the sum and of the difference with one. -/
theorem incrementAndDecrementByte : Obligations.IncrementAndDecrementByte := by
  intro s r
  have incReg := incOperand_reg_spec r s
  have incMem := incOperand_mem_spec s
  have decReg := decOperand_reg_spec r s
  have decMem := decOperand_mem_spec s
  rw [incEval_eq, ← exec_inc] at incReg incMem
  rw [decEval_eq, ← exec_dec] at decReg decMem
  exact ⟨⟨encode_inc_reg r, incReg⟩, ⟨rfl, incMem⟩, ⟨encode_dec_reg r, decReg⟩, rfl, decMem⟩

/-- Settles O50: `CPL` adjusts `A`, the two others write the flags alone. -/
theorem complementAndCarryFlag : Obligations.ComplementAndCarryFlag := by
  refine fun s => ⟨⟨rfl, ?complement⟩, ⟨rfl, _, rfl, setFlags_spec (scfFlags s.flags) 4 s⟩,
    rfl, _, rfl, setFlags_spec (ccfFlags s.flags) 4 s⟩
  case complement =>
    obtain ⟨t, ht, hvalue, hflags, hframe⟩ := adjustAcc_spec (cplEval s.getA s.flags) s
    exact ⟨t, ht, (congrArg BitVec.toNat hvalue).trans BitVec.toNat_not, hflags, hframe⟩

end Sys2Proof.Machine
end

section
/-! PROOFS. `DAA` (42_alu8.md R205): its pseudocode as arithmetic, and what it makes of a sum or a difference of packed BCD
bytes. -/
namespace Sys2Proof.Machine

/-- The two adjustments have no bit in common, so as numbers they add. -/
theorem daaAdjustment_toNat (p q : Bool) :
    ((if p then 0x06 else 0x00 : Byte) ||| (if q then 0x60 else 0x00)).toNat =
      (if p = true then 0x06 else 0) + (if q = true then 0x60 else 0) := by
  cases p <;> cases q <;> rfl

/-- What both branches do to Z, N and H. -/
theorem daaEval_flags (a : Byte) (old : Flags) :
    (daaEval a old).flags.z = decide ((daaEval a old).value = 0) ∧ (daaEval a old).flags.n = old.n ∧
      (daaEval a old).flags.h = false := by
  unfold daaEval
  split
  case isTrue hn => exact ⟨rfl, hn.symm, rfl⟩
  case isFalse hn => exact ⟨rfl, (Bool.eq_false_of_not_eq_true hn).symm, rfl⟩

/-- The branch after an addition. -/
theorem daaEval_of_not_n (a : Byte) {old : Flags} (hn : old.n = false) :
    (daaEval a old).value.toNat = (a.toNat + (if old.h = true ∨ a.toNat % 16 > 0x09 then 0x06 else 0)
      + (if old.c = true ∨ a.toNat > 0x99 then 0x60 else 0)) % 256 ∧
    (daaEval a old).flags.c = decide (old.c = true ∨ a.toNat > 0x99) := by
  rw [daaEval, if_neg (Bool.eq_false_iff.mp hn)]
  refine ⟨?value, ?carry⟩
  case value =>
    rw [BitVec.toNat_add, daaAdjustment_toNat, ← Nat.add_assoc]
    simp only [Bool.or_eq_true, decide_eq_true_eq]
  case carry => simp only [Bool.decide_or, Bool.decide_eq_true]

/-- The branch after a subtraction. -/
theorem daaEval_of_n (a : Byte) {old : Flags} (hn : old.n = true) :
    (daaEval a old).value.toNat =
      (a.toNat + 256 - (if old.h = true then 0x06 else 0) - (if old.c = true then 0x60 else 0)) % 256 ∧
    (daaEval a old).flags.c = old.c := by
  rw [daaEval, if_pos hn]
  refine ⟨?value, rfl⟩
  case value =>
    rw [BitVec.toNat_sub, daaAdjustment_toNat]
    split <;> split <;> omega

/-- Settles O48: the flags both branches write, then each branch. -/
theorem decimalAdjust : Obligations.DecimalAdjust := by
  intro s a
  obtain ⟨t, ht, hvalue, hflags, hframe⟩ := adjustAcc_spec (daaEval s.getA s.flags) s
  obtain ⟨hz, hn, hh⟩ := daaEval_flags s.getA s.flags
  refine ⟨rfl, t, ht, hframe, ?_⟩
  rw [hflags, hvalue]
  exact ⟨hz, hn, hh, daaEval_of_not_n s.getA, daaEval_of_n s.getA⟩

/-- The number `v` has the decimal digits of `n`, tens and units, as its two nibbles. -/
def IsPacked (v n : Nat) : Prop := ∃ d u, d ≤ 9 ∧ u ≤ 9 ∧ v = 16 * d + u ∧ n = 10 * d + u

theorem isPacked_toNat_iff {v : Byte} {n : Nat} : IsPacked v.toNat n ↔ IsBcd v ∧ bcdValue v = n := by
  rw [IsBcd, bcdValue]
  constructor
  · rintro ⟨d, u, hd, hu, hv, rfl⟩
    omega
  · rintro ⟨⟨hd, hu⟩, rfl⟩
    exact ⟨v.toNat / 16, v.toNat % 16, hd, hu, by omega, by omega⟩

theorem IsBcd.isPacked {v : Byte} (h : IsBcd v) : IsPacked v.toNat (bcdValue v) := isPacked_toNat_iff.mpr ⟨h, rfl⟩

/-- The sum as `ADD` and `DAA` compute it: a carry out of the low nibble, or a low nibble above 9, says that the units carry; a
carry out of the byte, or a byte above 0x99, that the tens do. -/
theorem IsPacked.add {x y m n : Nat} (hx : IsPacked x m) (hy : IsPacked y n) :
    IsPacked (((x + y) % 256 + (if x % 16 + y % 16 > 0x0F ∨ (x + y) % 256 % 16 > 0x09 then 0x06 else 0)
      + (if x + y > 0xFF ∨ (x + y) % 256 > 0x99 then 0x60 else 0)) % 256) ((m + n) % 100) ∧
    (x + y > 0xFF ∨ (x + y) % 256 > 0x99 ↔ m + n > 99) := by
  obtain ⟨d, u, hd, hu, rfl, rfl⟩ := hx
  obtain ⟨e, v, he, hv, rfl, rfl⟩ := hy
  have units : (16 * d + u) % 16 + (16 * e + v) % 16 > 0x0F ∨ (16 * d + u + (16 * e + v)) % 256 % 16 > 0x09 ↔
      u + v > 9 := by omega
  have tens : 16 * d + u + (16 * e + v) > 0xFF ∨ (16 * d + u + (16 * e + v)) % 256 > 0x99 ↔
      10 * d + u + (10 * e + v) > 99 := by omega
  refine ⟨?sum, tens⟩
  simp only [units, tens]
  clear units tens
  split <;> split
  · exact ⟨d + e + 1 - 10, u + v - 10, by omega, by omega, by omega, by omega⟩
  · exact ⟨d + e + 1, u + v - 10, by omega, by omega, by omega, by omega⟩
  · exact ⟨d + e - 10, u + v, by omega, by omega, by omega, by omega⟩
  · exact ⟨d + e, u + v, by omega, by omega, by omega, by omega⟩

/-- The difference as `SUB` and `DAA` compute it: a borrow into the low nibble is the units', a borrow into the byte the tens'. -/
theorem IsPacked.sub {x y m n : Nat} (hx : IsPacked x m) (hy : IsPacked y n) :
    IsPacked (((x + 512 - y) % 256 + 256 - (if x % 16 < y % 16 then 0x06 else 0) - (if x < y then 0x60 else 0)) % 256)
      ((m + 100 - n) % 100) ∧ (x < y ↔ m < n) := by
  obtain ⟨d, u, hd, hu, rfl, rfl⟩ := hx
  obtain ⟨e, v, he, hv, rfl, rfl⟩ := hy
  have units : (16 * d + u) % 16 < (16 * e + v) % 16 ↔ u < v := by omega
  have tens : 16 * d + u < 16 * e + v ↔ 10 * d + u < 10 * e + v := by omega
  refine ⟨?difference, tens⟩
  simp only [units, tens]
  clear units tens
  split <;> split
  · exact ⟨d + 10 - e - 1, u + 10 - v, by omega, by omega, by omega, by omega⟩
  · exact ⟨d - e - 1, u + 10 - v, by omega, by omega, by omega, by omega⟩
  · exact ⟨d + 10 - e, u - v, by omega, by omega, by omega, by omega⟩
  · exact ⟨d - e, u - v, by omega, by omega, by omega, by omega⟩

/-- `r` is a result whose adjustment by `DAA` is the packed BCD byte of `n`, with `carry` its flag C. -/
def AdjustsTo (r : AluResult) (n : Nat) (carry : Bool) : Prop :=
  IsPacked (daaEval r.value r.flags).value.toNat n ∧ (daaEval r.value r.flags).flags.c = carry

theorem add8_adjustsTo {x y : Byte} (hx : IsBcd x) (hy : IsBcd y) :
    AdjustsTo (add8 x y false) ((bcdValue x + bcdValue y) % 100) (decide (bcdValue x + bcdValue y > 99)) := by
  obtain ⟨hvalue, hcarry⟩ := daaEval_of_not_n (add8 x y false).value (old := (add8 x y false).flags) rfl
  have hsum : (add8 x y false).value.toNat = (x.toNat + y.toNat) % 256 := add8_value_toNat x y false
  have hhalf : (add8 x y false).flags.h = true ↔ x.toNat % 16 + y.toNat % 16 > 0x0F := decide_eq_true_iff
  have hfull : (add8 x y false).flags.c = true ↔ x.toNat + y.toNat > 0xFF := decide_eq_true_iff
  obtain ⟨hpacked, htens⟩ := hx.isPacked.add hy.isPacked
  simp only [hsum, hhalf, hfull] at hvalue hcarry
  exact ⟨hvalue ▸ hpacked, hcarry.trans (decide_eq_decide.mpr htens)⟩

theorem sub8_adjustsTo {x y : Byte} (hx : IsBcd x) (hy : IsBcd y) :
    AdjustsTo (sub8 x y false) ((bcdValue x + 100 - bcdValue y) % 100) (decide (bcdValue x < bcdValue y)) := by
  obtain ⟨hvalue, hcarry⟩ := daaEval_of_n (sub8 x y false).value (old := (sub8 x y false).flags) rfl
  have hdifference : (sub8 x y false).value.toNat = (x.toNat + 512 - y.toNat) % 256 := sub8_value_toNat x y false
  have hhalf : (sub8 x y false).flags.h = true ↔ x.toNat % 16 < y.toNat % 16 := decide_eq_true_iff
  have hfull : (sub8 x y false).flags.c = true ↔ x.toNat < y.toNat := decide_eq_true_iff
  obtain ⟨hpacked, htens⟩ := hx.isPacked.sub hy.isPacked
  simp only [hdifference, hhalf, hfull] at hvalue
  exact ⟨hvalue ▸ hpacked, hcarry.trans (decide_eq_decide.mpr htens)⟩

/-- An operation with an immediate that writes `A`, then `DAA`: what the result of the first adjusts to. -/
theorem aluImm_then_daa {op : AluOp} (hop : op ≠ .cp) (s : State) {y : Byte} {n : Nat} {carry : Bool}
    (h : AdjustsTo (aluEval op s.getA y s.flags.c) n carry) :
    ∃ t u, exec (Form.aluImm op y) s = .next t ∧ exec .daa t = .next u ∧ IsBcd u.getA ∧ bcdValue u.getA = n ∧
      u.flags.c = carry := by
  obtain ⟨t, ht, hvalue, hflags, _⟩ := aluAcc_spec hop y 8 s
  obtain ⟨u, hu, hadjusted, hcarry, _⟩ := adjustAcc_spec (daaEval t.getA t.flags) t
  rw [AdjustsTo, ← hvalue, ← hflags, ← hadjusted, ← hcarry, isPacked_toNat_iff] at h
  obtain ⟨⟨hbcd, hn⟩, hc⟩ := h
  exact ⟨t, u, (exec_aluImm op y s).trans ht, hu, hbcd, hn, hc⟩

/-- Settles O49: the sum and the difference of two packed BCD bytes, each adjusted. -/
theorem decimalAdjustMakesBcd : Obligations.DecimalAdjustMakesBcd := fun s _ hs hy =>
  ⟨aluImm_then_daa (op := .add) (by decide) s (add8_adjustsTo hs hy),
    aluImm_then_daa (op := .sub) (by decide) s (sub8_adjustsTo hs hy)⟩

end Sys2Proof.Machine
end

section
/-! PROOFS. The 16-bit sum and steps of a pair (43_alu16.md R230 to R232): the bytes of each form; then what each instruction
does is what the operation it names does, as numbers. -/
namespace Sys2Proof.Machine

theorem encode_addHlPair (p : Reg16) : encode (Form.addHlPair p) = [0x09 + 16 * p.code] := by
  cases p <;> rfl

theorem encode_incPair (p : Reg16) : encode (Form.incPair p) = [0x03 + 16 * p.code] := by
  cases p <;> rfl

theorem encode_decPair (p : Reg16) : encode (Form.decPair p) = [0x0B + 16 * p.code] := by
  cases p <;> rfl

theorem add16Eval_fst_toNat (x v : Word) (old : Flags) : (add16Eval x v old).1.toNat = (x.toNat + v.toNat) % 65536 :=
  BitVec.toNat_ofNat _ 16

/-- Settles O51: the operation writes the sum to `HL` and its flags to `F`, with the pair read before the write. -/
theorem addPairToHl : Obligations.AddPairToHl := by
  intro s p x v
  obtain ⟨t, ht, hsum, hflags, hframe⟩ := addHl_spec p s
  refine ⟨encode_addHlPair p, t, (exec_addHlPair p s).trans ht, ?sum, hflags, hframe.weaken fun r hr => ?names⟩
  case sum => exact hsum ▸ add16Eval_fst_toNat s.hl (s.getR16 p) s.flags
  case names => exact (List.perm_append_singleton .f (pairNames .hl)).mem_iff.mpr hr

theorem addPair_toNat (p : Reg16) (k : Word) (s : State) :
    ∃ t, addPair p k s = .next t ∧ (t.getR16 p).toNat = ((s.getR16 p).toNat + k.toNat) % 65536 ∧ Changes (pairNames p) 8 s t := by
  obtain ⟨t, ht, hsum, hframe⟩ := addPair_spec p k s
  exact ⟨t, ht, hsum ▸ BitVec.toNat_add (s.getR16 p) k, hframe⟩

/-- Settles O52: both are a sum, the step down with the word -1, whose number is 65535. -/
theorem incrementAndDecrementPair : Obligations.IncrementAndDecrementPair := by
  refine fun s p => ⟨⟨encode_incPair p, ?increment⟩, encode_decPair p, ?decrement⟩
  case increment =>
    rw [exec_incPair]
    exact addPair_toNat p 1 s
  case decrement =>
    rw [exec_decPair]
    exact addPair_toNat p (-1) s

end Sys2Proof.Machine
end

section
/-! PROOFS. The rotates, shifts and swap (44_rotate_shift_bit.md R241 to R252): each as arithmetic on the byte's number, then on
`A` and on an operand; the test, reset and set of one bit (R253 to R255). -/
namespace Sys2Proof.Machine

theorem bitByte_toNat (b : Bool) : (bitByte b).toNat = b.toNat := by
  cases b <;> rfl

theorem bitAt_zero (v : Byte) : bitAt v 0 = decide (v.toNat % 2 = 1) := Nat.testBit_zero v.toNat

theorem bitAt_zero_toNat (v : Byte) : (bitAt v 0).toNat = v.toNat % 2 := by
  have h : (bitAt v 0).toNat = v.toNat / 2 ^ 0 % 2 := Nat.toNat_testBit v.toNat 0
  rwa [pow_zero, Nat.div_one] at h

theorem bitAt_seven_toNat (v : Byte) : (bitAt v 7).toNat = v.toNat / 128 := by
  have h : (bitAt v 7).toNat = v.toNat / 128 % 2 := Nat.toNat_testBit v.toNat 7
  have hv := v.isLt
  omega

theorem bitAt_seven (v : Byte) : bitAt v 7 = decide (v.toNat / 128 = 1) := by
  rw [← bitAt_seven_toNat]
  cases bitAt v 7 <;> rfl

/-- The bit that enters at the bottom finds a zero there, so as numbers the two parts add. -/
theorem shiftLeft_or_bit_toNat (v : Byte) (b : Bool) : (v <<< 1 ||| bitByte b).toNat = v.toNat * 2 % 256 + b.toNat := by
  have hshift : (v <<< 1).toNat = 2 ^ 1 * (v.toNat % 128) := by
    rw [BitVec.toNat_shiftLeft, Nat.shiftLeft_eq]
    omega
  rw [BitVec.toNat_or, hshift, bitByte_toNat, ← Nat.two_pow_add_eq_or_of_lt (Bool.toNat_lt b)]
  omega

/-- The bit that enters at the top finds a zero there. -/
theorem shiftRight_or_bit_toNat (v : Byte) (b : Bool) : (v >>> 1 ||| bitByte b <<< 7).toNat = v.toNat / 2 + 128 * b.toNat := by
  have hshift : (v >>> 1).toNat = v.toNat / 2 := BitVec.toNat_ushiftRight v 1
  have hbit : (bitByte b <<< 7).toNat = 2 ^ 7 * b.toNat := by cases b <;> rfl
  have hlow : v.toNat / 2 < 2 ^ 7 := Nat.div_lt_of_lt_mul v.isLt
  rw [BitVec.toNat_or, hshift, hbit, Nat.or_comm, ← Nat.two_pow_add_eq_or_of_lt hlow, Nat.add_comm]

/-- The sign kept by `SRA` is bit 7 entering at the top. -/
theorem and_sign_eq_bit : ∀ v : Byte, v &&& 0x80 = bitByte (bitAt v 7) <<< 7 := by decide

/-- The nibble that moves up leaves zeros for the nibble that moves down. -/
theorem swapNibbles_toNat (v : Byte) : (v <<< 4 &&& 0xF0#8 ||| v >>> 4).toNat = v.toNat % 16 * 16 + v.toNat / 16 := by
  have hmask : ∀ u : Byte, (u <<< 4 &&& 0xF0#8).toNat = 2 ^ 4 * (u.toNat % 16) := by decide
  have hshift : (v >>> 4).toNat = v.toNat / 16 := by rw [BitVec.toNat_ushiftRight, Nat.shiftRight_eq_div_pow]
  have hlow : v.toNat / 16 < 2 ^ 4 := Nat.div_lt_of_lt_mul v.isLt
  rw [BitVec.toNat_or, hmask, hshift, ← Nat.two_pow_add_eq_or_of_lt hlow, Nat.mul_comm]

/-- Each operation is one of the two shifts by one place with a bit entering, or the swap. -/
theorem rotEval_value_toNat (op : RotOp) (v : Byte) (carry : Bool) :
    (rotEval op v carry).value.toNat = rotNat op v.toNat carry := by
  cases op with
  | rlc => exact (shiftLeft_or_bit_toNat v (bitAt v 7)).trans (by rw [bitAt_seven_toNat, rotNat])
  | rrc => exact (shiftRight_or_bit_toNat v (bitAt v 0)).trans (by rw [bitAt_zero_toNat, rotNat])
  | rl => exact shiftLeft_or_bit_toNat v carry
  | rr => exact shiftRight_or_bit_toNat v carry
  | sla =>
    have h := shiftLeft_or_bit_toNat v false
    rwa [bitByte, if_neg Bool.false_ne_true, BitVec.or_zero] at h
  | sra =>
    have h := shiftRight_or_bit_toNat v (bitAt v 7)
    rwa [← and_sign_eq_bit, bitAt_seven_toNat] at h
  | swap => exact swapNibbles_toNat v
  | srl => exact BitVec.toNat_ushiftRight v 1

theorem ofNat_rotNat (op : RotOp) (v : Byte) (carry : Bool) :
    BitVec.ofNat 8 (rotNat op v.toNat carry) = (rotEval op v carry).value := by
  rw [← rotEval_value_toNat, BitVec.ofNat_toNat, BitVec.setWidth_eq]

theorem rotEval_carry (op : RotOp) (v : Byte) (carry : Bool) : (rotEval op v carry).flags.c = rotOut op v.toNat := by
  cases op with
  | rlc | rl | sla => exact bitAt_seven v
  | rrc | rr | sra | srl => exact bitAt_zero v
  | swap => rfl

theorem rotEval_flags (op : RotOp) (v : Byte) (carry : Bool) : (rotEval op v carry).flags =
    { z := decide (rotNat op v.toNat carry = 0), n := false, h := false, c := rotOut op v.toNat } := by
  rw [← rotEval_carry op v carry, ← beq_zero_of_toNat (rotEval_value_toNat op v carry)]
  rfl

theorem rotAccEval_flags (op : RotOp) (v : Byte) (carry : Bool) : (rotAccEval op v carry).flags =
    { z := false, n := false, h := false, c := rotOut op v.toNat } := by
  rw [rotAccEval, rotEval_flags]

theorem rotAcc_toNat (op : RotOp) (s : State) :
    ∃ t, rotAcc op s = .next t ∧ t.getA.toNat = rotNat op s.getA.toNat s.flags.c ∧
      t.flags = { z := false, n := false, h := false, c := rotOut op s.getA.toNat } ∧ Changes [.a, .f] 4 s t := by
  obtain ⟨t, ht, hvalue, hflags, hframe⟩ := rotAcc_spec op s
  exact ⟨t, ht, hvalue ▸ rotEval_value_toNat op s.getA s.flags.c, hflags.trans (rotAccEval_flags op s.getA s.flags.c), hframe⟩

/-- Settles O53: the four are the rotation of `A`, each by its own operation. -/
theorem accumulatorRotates : Obligations.AccumulatorRotates := by
  intro s e he
  simp only [List.mem_cons, List.not_mem_nil, or_false] at he
  rcases he with rfl | rfl | rfl | rfl
  · exact ⟨rfl, rotAcc_toNat .rlc s⟩
  · exact ⟨rfl, rotAcc_toNat .rrc s⟩
  · exact ⟨rfl, rotAcc_toNat .rl s⟩
  · exact ⟨rfl, rotAcc_toNat .rr s⟩

theorem encode_rot (op : RotOp) (o : Operand8) : encode (Form.rot op o) = [0xCB, 8 * op.code + o.code] := by
  rcases o with r | _
  · cases op <;> cases r <;> rfl
  · cases op <;> rfl

/-- Settles O54: on a register and at `HL` the byte and the flags written are those of the operation as arithmetic. -/
theorem extendedRotates : Obligations.ExtendedRotates := by
  refine fun s op r => ⟨⟨encode_rot op (.reg r), ?register⟩, encode_rot op .hlInd, ?memory⟩
  case register =>
    obtain ⟨t, ht, hvalue, hflags, hframe⟩ := rotOperand_reg_spec op r s
    exact ⟨t, (exec_rot op (.reg r) s).trans ht, hvalue ▸ rotEval_value_toNat op (s.getR8 r) s.flags.c,
      hflags.trans (rotEval_flags op (s.getR8 r) s.flags.c), hframe⟩
  case memory =>
    rw [exec_rot, ← rotEval_flags, ofNat_rotNat]
    exact rotOperand_mem_spec op s

/-- The entry of the extended table at fields `x` and `y`, with the operand `r8[z]` given (R112, R128). -/
def extendedForm (x : Fin 4) (y : Fin 8) (o : Operand8) : Instr :=
  match x with
  | 0 => Form.rot (rotOf y) o
  | 1 => Form.bit y o
  | 2 => Form.res y o
  | 3 => Form.set y o

theorem decodeExtended_eq_form (xop : Byte) :
    decodeExtended xop = extendedForm (fieldX xop) (fieldY xop) (r8Of (fieldZ xop)) := rfl

theorem extendedCode_fields (o : Operand8) : ∀ (x : Fin 4) (y : Fin 8),
    fieldX (BitVec.ofNat 8 (64 * x.val + 8 * y.val) + o.code) = x ∧
    fieldY (BitVec.ofNat 8 (64 * x.val + 8 * y.val) + o.code) = y ∧
    r8Of (fieldZ (BitVec.ofNat 8 (64 * x.val + 8 * y.val) + o.code)) = o := by
  rcases o with r | _
  · cases r <;> decide
  · decide

/-- An entry's bytes: the byte whose fields are those of the entry decodes to it, and what it decodes to encodes as it. -/
theorem encode_extendedForm (x : Fin 4) (y : Fin 8) (o : Operand8) :
    encode (extendedForm x y o) = [0xCB, BitVec.ofNat 8 (64 * x.val + 8 * y.val) + o.code] := by
  obtain ⟨hx, hy, hz⟩ := extendedCode_fields o x y
  have hbytes := encode_decodeExtended (BitVec.ofNat 8 (64 * x.val + 8 * y.val) + o.code)
  rwa [decodeExtended_eq_form, hx, hy, hz] at hbytes

theorem encode_bit (b : Fin 8) (o : Operand8) :
    encode (Form.bit b o) = [0xCB, BitVec.ofNat 8 (0x40 + 8 * b.val) + o.code] := encode_extendedForm 1 b o

theorem encode_res (b : Fin 8) (o : Operand8) :
    encode (Form.res b o) = [0xCB, BitVec.ofNat 8 (0x80 + 8 * b.val) + o.code] := encode_extendedForm 2 b o

theorem encode_set (b : Fin 8) (o : Operand8) :
    encode (Form.set b o) = [0xCB, BitVec.ofNat 8 (0xC0 + 8 * b.val) + o.code] := encode_extendedForm 3 b o

/-- Settles O55: the flags written are those of the test, whatever the operand. -/
theorem bitTest : Obligations.BitTest := fun s b o =>
  ⟨encode_bit b o, exec_bit b o s ▸ bitOperand_spec b o s⟩

theorem oneBit_getLsbD (b : Fin 8) (k : Nat) : (oneBit b.val).getLsbD k = decide (k = b.val) := by
  have h : (oneBit b.val).getLsbD k = (decide (b.val < 8) && decide (b.val = k)) := BitVec.getLsbD_twoPow b.val k
  rw [h, decide_eq_true b.isLt, Bool.true_and]
  exact decide_eq_decide.mpr eq_comm

/-- Past the top of the byte both sides are false. -/
theorem clearBit_getLsbD (v : Byte) (b : Fin 8) (k : Nat) :
    (v &&& ~~~oneBit b.val).getLsbD k = (v.getLsbD k && decide (k ≠ b.val)) := by
  rw [BitVec.getLsbD_and, BitVec.getLsbD_not, oneBit_getLsbD, decide_not]
  rcases Nat.lt_or_ge k 8 with hk | hk
  · rw [decide_eq_true hk, Bool.true_and]
  · rw [BitVec.getLsbD_of_ge v k hk, Bool.false_and, Bool.false_and]

theorem setBit_getLsbD (v : Byte) (b : Fin 8) (k : Nat) :
    (v ||| oneBit b.val).getLsbD k = (v.getLsbD k || decide (k = b.val)) := by
  rw [BitVec.getLsbD_or, oneBit_getLsbD]

/-- Settles O56: on a register bit by bit, at `HL` as the byte stored. -/
theorem bitClearAndSet : Obligations.BitClearAndSet := by
  refine fun s b r => ⟨⟨encode_res b (.reg r), ?clearRegister⟩, ⟨encode_res b .hlInd, exec_res b .hlInd s ▸ resOperand_mem_spec b s⟩,
    ⟨encode_set b (.reg r), ?setRegister⟩, encode_set b .hlInd, exec_set b .hlInd s ▸ setOperand_mem_spec b s⟩
  case clearRegister =>
    obtain ⟨t, ht, hvalue, hframe⟩ := resOperand_reg_spec b r s
    exact ⟨t, (exec_res b (.reg r) s).trans ht, hvalue ▸ clearBit_getLsbD (s.getR8 r) b, hframe⟩
  case setRegister =>
    obtain ⟨t, ht, hvalue, hframe⟩ := setOperand_reg_spec b r s
    exact ⟨t, (exec_set b (.reg r) s).trans ht, hvalue ▸ setBit_getLsbD (s.getR8 r) b, hframe⟩

end Sys2Proof.Machine
end

section
/-! PROOFS. The jumps, calls, restarts and returns (45_control.md): the bytes of each form; then what each instruction does is what
the operation it names does, taken or not. `RETI` after an interrupt entry (60_exceptions.md R318, R319). -/
namespace Sys2Proof.Machine

theorem encode_jpCond (cc : Cond) (nn : Word) :
    encode (Form.jpCond cc nn) = [0xC2 + 8 * cc.code, lowByte nn, highByte nn] := by
  cases cc <;> rfl

theorem encode_jrCond (cc : Cond) (n : Byte) : encode (Form.jrCond cc n) = [0x20 + 8 * cc.code, n] := by
  cases cc <;> rfl

theorem encode_callCond (cc : Cond) (nn : Word) :
    encode (Form.callCond cc nn) = [0xC4 + 8 * cc.code, lowByte nn, highByte nn] := by
  cases cc <;> rfl

theorem encode_retCond (cc : Cond) : encode (Form.retCond cc) = [0xC0 + 8 * cc.code] := by
  cases cc <;> rfl

theorem encode_rst (y : Fin 8) : encode (Form.rst y) = [BitVec.ofNat 8 (0xC7 + 8 * y.val)] := by
  revert y
  exact forall_fin8 rfl rfl rfl rfl rfl rfl rfl rfl

theorem relTarget_toNat (pc : Word) (n : Byte) : (relTarget pc n).toNat = (pc.toNat + sextNat n) % 65536 := by
  rw [← sext16_toNat]
  exact BitVec.toNat_add pc (sext16 n)

/-- Settles O57: a jump sets `PC` alone; a relative target is `PC` plus the sign-extended byte. -/
theorem jumps : Obligations.Jumps := by
  refine fun s cc n nn => ⟨⟨rfl, rfl, rfl, rfl⟩, ⟨rfl, jumpTo_spec nn 16 s⟩, ⟨encode_jpCond cc nn, ?absolute⟩,
    ⟨rfl, jumpTo_spec s.hl 4 s⟩, ⟨rfl, ?relative⟩, encode_jrCond cc n, ?relativeIf⟩
  case absolute =>
    rw [exec_jpCond]
    exact jumpIf_spec cc nn 12 16 s
  case relative =>
    obtain ⟨t, ht, hpc, hframe⟩ := jumpTo_spec (relTarget s.pc n) 12 s
    exact ⟨t, ht, hpc ▸ relTarget_toNat s.pc n, hframe⟩
  case relativeIf =>
    obtain ⟨t, ht, hpc, hframe⟩ := jumpIf_spec cc (relTarget s.pc n) 8 12 s
    refine ⟨t, (exec_jrCond cc n s).trans ht, ?_, hframe⟩
    rw [hpc, apply_ite BitVec.toNat, relTarget_toNat]

/-- A call not taken pushes nothing (R277). -/
theorem callIf_spec (cc : Cond) (target : Word) (s : State) :
    ∃ t, callIf cc target s = .next t ∧
      (s.cond cc = true → t.pc = target ∧ t.sp = s.sp - 2 ∧
        Stores [(s.sp - 2, lowByte s.pc), (s.sp - 2 + 1, highByte s.pc)] [.sp, .pc] 24 s t) ∧
      (s.cond cc = false → Changes [] 12 s t) := by
  unfold callIf
  cases s.cond cc with
  | true =>
    obtain ⟨t, ht, heffect⟩ := callTo_spec target 24 s
    exact ⟨t, ht, fun _ => heffect, nofun⟩
  | false => exact ⟨_, rfl, nofun, fun _ => charge_spec 12 s⟩

theorem rstTarget_toNat (y : Fin 8) : (rstTarget y).toNat = 8 * y.val := by
  rw [rstTarget, BitVec.toNat_ofNat, Nat.mod_eq_of_lt (by omega)]

/-- Settles O58: each is the push of `PC` and the jump that `CALL` names, the conditional form only when taken. -/
theorem callsAndRestarts : Obligations.CallsAndRestarts := by
  refine fun s cc y nn => ⟨⟨rfl, callTo_spec nn 24 s⟩, ⟨encode_callCond cc nn, ?conditional⟩, encode_rst y, ?restart⟩
  case conditional =>
    rw [exec_callCond]
    exact callIf_spec cc nn s
  case restart =>
    obtain ⟨t, ht, hpc, heffect⟩ := callTo_spec (rstTarget y) 16 s
    exact ⟨t, (exec_rst y s).trans ht, hpc ▸ rstTarget_toNat y, heffect⟩

/-- A return not taken does not read the stack (R279). -/
theorem returnIf_spec (cc : Cond) (s : State) :
    ∃ t, returnIf cc s = .next t ∧
      (s.cond cc = true → t.pc = s.memRead16 s.sp ∧ t.sp = s.sp + 2 ∧ Changes [.sp, .pc] 20 s t) ∧
      (s.cond cc = false → Changes [] 8 s t) := by
  unfold returnIf
  cases s.cond cc with
  | true =>
    obtain ⟨t, ht, heffect⟩ := returnCharged_spec 20 s
    exact ⟨t, ht, fun _ => heffect, nofun⟩
  | false => exact ⟨_, rfl, nofun, fun _ => charge_spec 8 s⟩

/-- Settles O59: each is a pop of `PC`, the conditional form only when taken; `RETI` also sets `IME`. -/
theorem returns : Obligations.Returns := by
  refine fun s cc => ⟨⟨rfl, returnCharged_spec 16 s⟩, ⟨encode_retCond cc, ?conditional⟩, rfl, _, rfl, returnFromInterrupt_spec s⟩
  case conditional =>
    rw [exec_retCond]
    exact returnIf_spec cc s

theorem KeepsRegs.trans {l : List RegName} {s t u : State} (h : KeepsRegs l s t) (k : KeepsRegs l t u) : KeepsRegs l s u :=
  fun r hr => (k r hr).trans (h r hr)

/-- Where `SP` and `PC` alone may differ and do not, no register does. -/
theorem KeepsRegs.nil_of_sp_pc {s t : State} (h : KeepsRegs [.sp, .pc] s t) (hsp : t.sp = s.sp) (hpc : t.pc = s.pc) :
    KeepsRegs [] s t := by
  intro r _
  cases r with
  | sp => exact congrArg BitVec.toNat hsp
  | pc => exact congrArg BitVec.toNat hpc
  | _ => exact h _ (by decide)

/-- The state that an interrupt entry pushes from: the bit of `IF` cleared, the registers saved, `IME` clear (R318). -/
def State.acknowledge (s : State) (i : IntSource) : State :=
  { s with
    io := s.io.set .intFlag (s.io.intFlag &&& ~~~oneBit i.index)
    saved := some s.snapshot
    ime := false }

theorem State.interruptEntry_eq (s : State) (i : IntSource) :
    s.interruptEntry i = { (s.acknowledge i).push16 s.pc with pc := i.isrAddr } := rfl

theorem State.acknowledge_regVal (s : State) (i : IntSource) (r : RegName) : (s.acknowledge i).regVal r = s.regVal r :=
  regVal_congr rfl rfl rfl rfl rfl rfl r

@[simp] theorem State.interruptEntry_sp (s : State) (i : IntSource) : (s.interruptEntry i).sp = s.sp - 2 :=
  (s.acknowledge i).push16_sp s.pc

/-- An interrupt entry moves `SP` and `PC` and no other register (R318). -/
theorem State.interruptEntry_keepsRegs (s : State) (i : IntSource) : KeepsRegs [.sp, .pc] s (s.interruptEntry i) := by
  obtain ⟨_, _, hregs, _⟩ := push16_spec (s.acknowledge i) s.pc i.isrAddr 0
  exact fun r hr => (hregs r hr).trans (s.acknowledge_regVal i r)

/-- The word on top of the stack after an interrupt entry, the stack in plain storage, is the interrupted `PC`. -/
theorem State.interruptEntry_memRead16_sp (s : State) (i : IntSource) (h : PlainStore (s.sp - 2)) (h' : PlainStore (s.sp - 2 + 1)) :
    (s.interruptEntry i).memRead16 (s.interruptEntry i).sp = s.pc := by
  rw [State.interruptEntry_sp]
  exact State.memRead16_memWrite16_plain _ h h' s.pc

/-- Settles O24: the entry pushes `PC` in plain storage, and the return pops it. -/
theorem retiAfterInterruptEntryResumes : Obligations.RetiAfterInterruptEntryResumes := by
  intro s i h1 h2
  obtain ⟨hpc, hsp, hregs, _, hime, _⟩ := returnFromInterrupt_spec (s.interruptEntry i)
  have hlow : (s.sp - 2).toNat = s.sp.toNat - 2 := by bv_omega
  have hhigh : (s.sp - 2 + 1).toNat = s.sp.toNat - 1 := by bv_omega
  have hback : (s.interruptEntry i).memRead16 (s.interruptEntry i).sp = s.pc :=
    s.interruptEntry_memRead16_sp i (.inl ⟨by omega, by omega⟩) (.inl ⟨by omega, by omega⟩)
  rw [hback] at hpc
  rw [State.interruptEntry_sp, BitVec.sub_add_cancel] at hsp
  exact ⟨_, rfl, hpc, hsp, hime, ((s.interruptEntry_keepsRegs i).trans hregs).nil_of_sp_pc hsp hpc⟩

end Sys2Proof.Machine
end

section
/-! PROOFS. The system instructions (46_misc.md R290 to R294): each charges 4 cycles after a write of `IME` or the mode, or after none. -/
namespace Sys2Proof.Machine

/-- A state in which `IME` and the mode alone are written, and then charged. -/
theorem setControl_spec (ime : Bool) (mode : Mode) (cost : Nat) (s : State) :
    ChangesControl [] ime mode cost s ({ s with ime := ime, mode := mode }.charge cost) :=
  ChangesControl.charge (fun r _ => regVal_congr rfl rfl rfl rfl rfl rfl r) (KeepsMachine.intro rfl rfl rfl rfl rfl rfl rfl rfl)
    rfl rfl rfl cost

/-- Settles O60: `NOP` is the charge alone; each of the others writes one of `IME` and the mode and leaves the other as it was. -/
theorem systemInstructions : Obligations.SystemInstructions := by
  refine fun s n => ⟨⟨rfl, _, rfl, ?nop⟩, ⟨rfl, _, rfl, ?halt⟩, ⟨rfl, _, rfl, ?stop⟩, ⟨rfl, _, rfl, ?di⟩, rfl, _, rfl, ?ei⟩
  case nop => exact charge_spec 4 s
  case halt => exact setControl_spec s.ime .halted 4 s
  case stop => exact setControl_spec s.ime .stopped 4 s
  case di => exact setControl_spec false s.mode 4 s
  case ei => exact setControl_spec true s.mode 4 s

end Sys2Proof.Machine
end

section
/-! PROOFS. Interrupts (60_exceptions.md R313 to R318): the priority encoder, the step that takes an interrupt, and what the entry
does. -/
namespace Sys2Proof.Machine

theorem IntSource.index_lt (i : IntSource) : i.index < IntSource.all.length := by cases i <;> decide

/-- The sources are listed in the order of their indexes, none left out. -/
theorem IntSource.all_getElem_index (i : IntSource) : IntSource.all[i.index]'i.index_lt = i := by cases i <;> rfl

theorem IntSource.index_all_getElem : ∀ k : Fin IntSource.all.length, (IntSource.all[k.val]).index = k.val := by decide

theorem IntSource.mem_all (i : IntSource) : i ∈ IntSource.all := List.mem_of_getElem i.all_getElem_index

/-- `GetIsr` finds the source whose bit is set and below whose bit none is (R316). -/
theorem getIsr_eq_some_iff (m : Byte) (i : IntSource) :
    getIsr m = some i ↔ m.getLsbD i.index = true ∧ ∀ j : Fin 5, j.val < i.index → m.getLsbD j.val = false := by
  rw [getIsr, List.find?_eq_some_iff_getElem]
  constructor
  · rintro ⟨hset, k, hk, rfl, hbelow⟩
    rw [IntSource.index_all_getElem ⟨k, hk⟩] at hset ⊢
    refine ⟨hset, fun j hj => ?_⟩
    have hclear := hbelow j.val hj
    rwa [IntSource.index_all_getElem j, Bool.not_eq_true'] at hclear
  · rintro ⟨hset, hbelow⟩
    refine ⟨hset, i.index, i.index_lt, i.all_getElem_index, fun k hk => ?_⟩
    have hk5 : k < 5 := Nat.lt_trans hk i.index_lt
    rw [IntSource.index_all_getElem ⟨k, hk5⟩, bitAt, hbelow ⟨k, hk5⟩ hk, Bool.not_false]

/-- Settles O22: the encoder searches the list of the sources in the order of their indexes. -/
theorem priorityEncoderTakesTheLeastIndex : Obligations.PriorityEncoderTakesTheLeastIndex :=
  ⟨fun m => ⟨getIsr_eq_none_iff m, getIsr_eq_some_iff m⟩, rfl, IntSource.mem_all⟩

theorem State.pendingInterrupt_of_ime {s : State} (h : s.ime = true) :
    s.pendingInterrupt = getIsr (s.io.intEnable &&& s.io.intFlag) := by
  rw [State.pendingInterrupt, if_pos h]

@[simp] theorem State.interruptEntry_cycles (s : State) (i : IntSource) : (s.interruptEntry i).cycles = s.cycles :=
  (s.acknowledge i).push16_cycles s.pc

/-- After a charge alone has been added to `cycles`, the step ends with the timer advance by that charge (R317, R327). -/
theorem State.endStep_charge {s t : State} (h : t.cycles = s.cycles) (n : Nat) :
    s.endStep (t.charge n) = { (t.charge n).timerAdvance n with buttons := s.buttons + 1 } := by
  have hcost : (t.charge n).cycles - s.cycles = n := by rw [State.charge_cycles, h, Nat.add_sub_cancel_left]
  rw [State.endStep, hcost]

/-- Settles O21: the selected source is pending, and the entry itself charges nothing. -/
theorem stepTakesThePendingInterrupt : Obligations.StepTakesThePendingInterrupt := by
  intro s i hmode hime hisr
  have hpending : s.pendingInterrupt = some i := (State.pendingInterrupt_of_ime hime).trans hisr
  rw [step_interrupt hmode hpending, State.endStep_charge (s.interruptEntry_cycles i)]

/-- Settles O23: the entry is a push of `PC` from the acknowledged state, and a jump that charges nothing. -/
theorem interruptEntryEffect : Obligations.InterruptEntryEffect := fun s i =>
  ⟨rfl, s.interruptEntry_sp i, push16_spec (s.acknowledge i) s.pc i.isrAddr 0⟩

end Sys2Proof.Machine
end

section
/-! PROOFS. The timers (60_exceptions.md R323 to R326): the divisions of the model are the loops of the spec, and the divider with
its prescaler is one counter. -/
namespace Sys2Proof.Machine

theorem timerPeriod_pos (tac : Byte) : 0 < timerPeriod tac := by
  unfold timerPeriod
  split <;> decide

theorem State.advanceDiv_eq_divLoop (s : State) {c fuel : Nat} (h : s.divAcc + c ≤ fuel) :
    s.advanceDiv c = { s with
      divAcc := (divLoop fuel (s.divAcc + c) s.io.div).1
      io := { s.io with div := (divLoop fuel (s.divAcc + c) s.io.div).2 } } := by
  rw [divLoop_eq _ _ _ h]
  rfl

theorem State.advanceTima_stopped {s : State} (h : s.io.tac.getLsbD 2 = false) (c : Nat) : s.advanceTima c = s :=
  if_neg (Bool.eq_false_iff.mp h)

theorem State.advanceTima_started {s : State} (h : s.io.tac.getLsbD 2 = true) (c : Nat) :
    s.advanceTima c = { s with
      timaAcc := (s.timaAcc + c) % timerPeriod s.io.tac
      io := s.io.tickTimaN ((s.timaAcc + c) / timerPeriod s.io.tac) } :=
  if_pos h

theorem State.advanceTima_eq_timaLoop {s : State} (hstart : s.io.tac.getLsbD 2 = true) {c fuel : Nat} (h : s.timaAcc + c ≤ fuel) :
    s.advanceTima c = { s with
      timaAcc := (timaLoop fuel (timerPeriod s.io.tac) (s.timaAcc + c) s.io).1
      io := (timaLoop fuel (timerPeriod s.io.tac) (s.timaAcc + c) s.io).2 } := by
  rw [State.advanceTima_started hstart, timaLoop_eq _ _ _ _ (timerPeriod_pos _) h]

/-- Settles O31: each part of the advance is its loop; the period is read from the table of R326. -/
theorem timerAdvanceFollowsTheLoops : Obligations.TimerAdvanceFollowsTheLoops := by
  refine fun s c fuel => ⟨rfl, s.advanceDiv_eq_divLoop, fun hstop => State.advanceTima_stopped hstop c, fun hstart hfuel => ?started⟩
  case started =>
    rw [← timerPeriod_eq]
    exact State.advanceTima_eq_timaLoop hstart hfuel

/-- The timer counter's part leaves the divider and its prescaler. -/
theorem State.advanceTima_keepsDivider (s : State) (c : Nat) :
    (s.advanceTima c).divAcc = s.divAcc ∧ (s.advanceTima c).io.div = s.io.div := by
  cases h : s.io.tac.getLsbD 2 with
  | false => rw [State.advanceTima_stopped h]; exact ⟨rfl, rfl⟩
  | true =>
    rw [State.advanceTima_started h]
    exact ⟨rfl, HwRegs.tickTimaN_other s.io _ (r := .div) (by decide) (by decide)⟩

theorem State.advanceDiv_div_toNat (s : State) (c : Nat) :
    (s.advanceDiv c).io.div.toNat = (s.io.div.toNat + (s.divAcc + c) / 256) % 256 := by
  show (s.io.div + BitVec.ofNat 8 ((s.divAcc + c) / 256)).toNat = _
  rw [BitVec.toNat_add, BitVec.toNat_ofNat, Nat.add_mod_mod]

/-- Settles O32: the quotient of the accumulated cycles goes to `DIV`, their remainder to the prescaler. -/
theorem dividerCountsCycles : Obligations.DividerCountsCycles := by
  intro s c
  obtain ⟨hacc, hdiv⟩ := (s.advanceDiv c).advanceTima_keepsDivider c
  have hrem : (s.advanceDiv c).divAcc = (s.divAcc + c) % 256 := rfl
  rw [State.timerAdvance, hacc, hdiv, State.advanceDiv_div_toNat, hrem]
  omega

end Sys2Proof.Machine
end

section
/-! PROOFS. The host's actions between steps (60_exceptions.md R332). -/
namespace Sys2Proof.Machine

/-- A host action other than a write of memory writes no field that the invariant reads. -/
theorem State.drive_inv (s : State) (act : DriverAction) (h : s.Inv) : (s.drive act).Inv := by
  cases act with
  | writeMemory a v => exact State.memWrite_inv s a v h
  | requestInterrupt _ | updateView _ _ | changeButtons _ => exact h

/-- The timer's bit is the machine's own to set (R325). -/
theorem HostSource.toIntSource_ne_timerOverflow (h : HostSource) : h.toIntSource ≠ .timerOverflow := by cases h <;> decide

theorem HwRegs.get_set (io : HwRegs) (r q : HwReg) (v : Byte) : (io.set r v).get q = if q = r then v else io.get q := by
  split
  case isTrue h => rw [h, HwRegs.get_set_same]
  case isFalse h => exact HwRegs.get_set_other io h v

/-- Settles O33: each action is the update its row names. -/
theorem hostActionsBetweenSteps : Obligations.HostActionsBetweenSteps :=
  ⟨State.drive_inv, fun s h _ v r _ => ⟨rfl, h.toIntSource_ne_timerOverflow, rfl, ⟨fun q => s.io.get_set r.toHwReg q v, _, rfl⟩, rfl⟩⟩

end Sys2Proof.Machine
end
